-- ==== Sys2Proof/Word.lean ====
section
/-! DEFINITION. The bit-vector types of the manual: what crosses the chain as bytes, and the counters
that have a stated width. Quantities the manual only computes with (powers, times, counts) are Nat,
temperatures are Int. -/

namespace Sys2Proof

/-- One byte of a frame, a table image or a record (R189). -/
abbrev Byte := BitVec 8

/-- A 32-bit energy register of a metering node, which counts up and wraps (3.1). -/
abbrev Register32 := BitVec 32

/-- A 48-bit count of joules: a part-wide counter (R44) or an energy of a record (R162). -/
abbrev Energy := BitVec 48

end Sys2Proof
end

