-- ==== Sys2Proof/Syntax.lean ====
section
/-! DEFINITION. The commands of the block: one constructor of `Instr` per row of spec/opcode_table.json,
with the names its operands are drawn from. -/

namespace Sys2Proof.Machine

/-- The eight roles of the chain (1.3). -/
inductive Role where
  | gateway | inlet | pack | heater | cargo | converter | contactor | injector
  deriving DecidableEq, Repr

/-- The eight switched branches of the high-voltage bus (2.1). -/
inductive Branch where
  | main | dcInlet | converter | cargo | zone1 | zone2 | zone3 | zone4
  deriving DecidableEq, Repr

/-- The four heated zones of the pack (6.2). -/
inductive Zone where
  | z1 | z2 | z3 | z4
  deriving DecidableEq, Repr

end Sys2Proof.Machine

namespace Sys2Proof

open Sys2Proof.Machine

/-- The steps of the part, one constructor per row of spec/opcode_table.json. Those from
`unknownCommand` on are the Management Unit's taking of the command at the head of its command queue
(R177, R178): the operands of such a command are the bytes of the held frame, so the row itself has
none (log 4). -/
inductive Instr where
  -- the part as a whole
  | powerOn (strap : BitVec 2)
  | resetInput (strap : BitVec 2)
  -- the two ports
  | frameArrival (bytes : List Byte)
  | transmissionEnd
  -- expiries and completions
  | stalenessExpiry (role : Role)
  | switchDeadlineExpiry (branch : Branch)
  | heatPendingExpiry (zone : Zone)
  | modeDeadlineExpiry
  | inletStaleGraceExpiry
  | unknownGraceExpiry
  | durationTimerExpiry
  | burstExpiry (zone : Zone)
  | restExpiry (zone : Zone)
  | minuteTick
  | wakeIntervalExpiry
  | loadCommitCompletion
  -- takings of the head command
  | unknownCommand
  | status
  | release
  | sleep
  | wake
  | configureMemory
  | setNoticeMask
  | loadBegin
  | loadData
  | loadCommit
  | loadCancel
  | readTable
  | resetLink
  | resetHeat
  | resetPart
  | readBranches
  | setClock
  | readBudget
  | openSession
  | pauseSession
  | resumeSession
  | abortSession
  | splitSession
  | sessionStatus
  | heatNow
  | heatStop
  | setDeparture
  | cancelDeparture
  | readHeat
  | clearTrip
  | selfCheck
  | readInsulation
  | locateNow
  | restoreBranch
  | readFaults
  | readRecord
  | releaseRecords
  deriving DecidableEq, Repr

end Sys2Proof
end

