-- ==== Sys2Proof/Decode.lean ====
section
/-! DEFINITION. The command a word of spec/opcode_table.json spells: no row of this block's table gives
bits, so no word spells a command. -/

namespace Sys2Proof

/-- The table gives no row any bits ("fields": [] throughout), so there is nothing to decode. -/
def decodeTableWord (_nbits _w : Nat) : Option Instr := none

end Sys2Proof
end

