-- ==== Sys2Proof/Config.lean ====
section
/-! DEFINITION. What one implementation fixes and the values the manual leaves open. Each is opaque:
no proof can see which value it is, so a claim holds for every one of them. -/

namespace Sys2Proof

/-- The part's factory-set unique ID, carried by every record (R162). Log 7. -/
opaque Config.uniqueId : BitVec 64

/-- The value of a 48-bit energy of a record or of the session whose exact sum does not fit (the manual
states no result there): a function of the exact sum. DESIGN CHOICE, log 8. -/
opaque Config.unstatedEnergySum : Nat → Energy

/-- A segment's energy less its cost mark where the energy, a free value of log 8, lies below the mark (R52 states no
result there): a function of the two. DESIGN CHOICE, log 50. -/
opaque Config.unstatedEnergySince : Energy → Energy → Nat

/-- What a 3-byte power field of an answer or notice shows for a power above 16,777,215 W (the manual
states no result there). DESIGN CHOICE, log 9. -/
opaque Config.unstatedPowerField : Nat → BitVec 24

/-- What a 1-byte count field of an answer shows for a count above 255 (the manual states no result
there). DESIGN CHOICE, log 10. -/
opaque Config.unstatedCountField : Nat → Byte

/-- Band power for a PACK sample whose coldest minimum lies above the upper temperature of the last LIMIT entry
while no maximum does (R72 gives no figure there): a function of that upper temperature and the coldest minimum.
DESIGN CHOICE, log 45. -/
opaque Config.unstatedBandPower : Int → Int → Nat

end Sys2Proof
end

