-- ==== Sys2Proof/Machine/State.lean ====
section
/-! DEFINITION. The state of the part as plain data: one structure per block of the block diagram, in the
manual's order, and the state after reset. INVENTORY.md lists every field with the rule that names it. -/

namespace Sys2Proof.Machine

/-- No step of the part stops with a fault: every error the manual names (a bad frame, a dropped frame, a
failed switch, a refused command) is an effect on the state, and the step goes on. Safe: nothing is raised. -/
inductive Fault where
  deriving DecidableEq, Repr

/-- Why a step has no meaning. -/
inductive Refusal where
  /-- A row of the opcode table whose meaning is not written yet. No arm of `exec` raises it. Safe: the
  step does not go on with a guessed effect. -/
  | notModelled (mnemonic : String)
  deriving DecidableEq, Repr

/-! ## Families of values, one per role, branch, zone or account -/

/-- One value for each of the eight roles (1.3). -/
structure PerRole (α : Type) where
  gateway : α
  inlet : α
  pack : α
  heater : α
  cargo : α
  converter : α
  contactor : α
  injector : α
  deriving DecidableEq, Repr

/-- One value for each of the eight branches (2.1). -/
structure PerBranch (α : Type) where
  main : α
  dcInlet : α
  converter : α
  cargo : α
  zone1 : α
  zone2 : α
  zone3 : α
  zone4 : α
  deriving DecidableEq, Repr

/-- One value for each of the four zones (6.2). -/
structure PerZone (α : Type) where
  z1 : α
  z2 : α
  z3 : α
  z4 : α
  deriving DecidableEq, Repr

/-- One value for each of the three accounts. -/
structure PerAccount (α : Type) where
  traction : α
  heat : α
  cargo : α
  deriving DecidableEq, Repr

/-- A table in force: the image as committed, byte for byte (R186), and what it says. -/
structure Loaded (α : Type) where
  image : List Byte
  table : α
  deriving DecidableEq, Repr

/-! ## Times -/

/-- A valid clock's value (R45), and a stamp taken from it. An unset stamp is `none`. -/
structure Clock where
  week : Nat
  minute : Nat
  second : Nat
  deriving DecidableEq, Repr

/-- A pending change: the state awaited and the time of its deadline on the part's timebase (R26, R113,
R124). -/
structure Awaiting (α : Type) where
  awaited : α
  deadline : Nat
  deriving DecidableEq, Repr

/-! ## Chain Port (1.1, 1.2) -/

/-- The six frame kinds (1.1). -/
inductive FrameKind where
  | sample | order | drive | command | answer | notice
  deriving DecidableEq, Repr

/-- A frame that has passed the check of R2, or one of the part's own. Its length field and CRC follow
from the other fields (R189). -/
structure Frame where
  src : Byte
  dst : Byte
  kind : FrameKind
  seq : Byte
  marks : Byte
  payload : List Byte
  deriving DecidableEq, Repr

/-- The Chain Port (R1, R6, R7, R8). -/
structure ChainPort where
  address : Byte
  fwd : List Frame
  portB : Option Frame
  linkError : Bool
  linkOverrun : Bool
  deriving DecidableEq, Repr

/-! ## Node Table (1.3, 1.4) -/

/-- The state of an entry (R13). -/
inductive EntryState where
  | unseen | live | stale
  deriving DecidableEq, Repr

/-- The loaded part of an entry. The plausible increment is kept for every role and used for the metering
roles alone. -/
structure NodeEntry where
  role : Role
  address : Byte
  period : Nat
  staleLimit : Nat
  plausible : Nat
  deriving DecidableEq, Repr

/-- The runtime part of an entry but for its readings: state, last sequence, last arrival, and the time
from which its staleness timer runs, when it runs (R10 to R14). -/
structure EntryRuntime where
  state : EntryState
  lastSeq : Option Byte
  lastArrival : Option Nat
  timer : Option Nat
  deriving DecidableEq, Repr

/-- The kind of an inlet connection: AC or DC. -/
inductive ChargeKind where
  | ac | dc
  deriving DecidableEq, Repr

/-- The readings of the INLET entry. -/
structure InletReadings where
  plugPresent : Bool
  kind : ChargeKind
  ready : Bool
  monitorActive : Bool
  phaseCurrent : Nat
  phases : Nat
  lineVoltage : Nat
  dcOffer : Nat
  register : Register32
  epoch : Byte
  deriving DecidableEq, Repr

/-- A zone's minimum and maximum temperature, in °C. -/
structure ZoneTemps where
  low : Int
  high : Int
  deriving DecidableEq, Repr

/-- The readings of the PACK entry. -/
structure PackReadings where
  voltage : Nat
  soc : Nat
  temps : PerZone ZoneTemps
  deriving DecidableEq, Repr

/-- The readings of the HEATER entry: heat-on (ON is true), isolation switches (CLOSED is true), energy. -/
structure HeaterReadings where
  heatOn : PerZone Bool
  isolation : PerZone Bool
  register : Register32
  epoch : Byte
  deriving DecidableEq, Repr

/-- The readings of the CARGO entry. -/
structure CargoReadings where
  power : Nat
  register : Register32
  epoch : Byte
  deriving DecidableEq, Repr

/-- The reading of the CONVERTER entry. -/
inductive ConverterState where
  | stopped | running | fault
  deriving DecidableEq, Repr

/-- The readings of the CONTACTOR entry; CLOSED is true. -/
structure ContactorReadings where
  main : Bool
  dcInlet : Bool
  converter : Bool
  cargo : Bool
  deriving DecidableEq, Repr

/-- The injector's modes (7.1). -/
inductive InjectorMode where
  | off | active | listen | selfcheck
  deriving DecidableEq, Repr

/-- The readings of the INJECTOR entry; 65,535 kΩ is over range. -/
structure InjectorReadings where
  echo : InjectorMode
  resistance : Nat
  settled : Bool
  selfCheck : Nat
  deriving DecidableEq, Repr

/-- The Node Table: the table in force, each entry's runtime, and the readings per role, absent until
first received. -/
structure NodeTable where
  table : Option (Loaded (List NodeEntry))
  runtime : PerRole EntryRuntime
  inlet : Option InletReadings
  pack : Option PackReadings
  heater : Option HeaterReadings
  cargo : Option CargoReadings
  converter : Option ConverterState
  contactor : Option ContactorReadings
  injector : Option InjectorReadings
  deriving DecidableEq, Repr

/-! ## Order Clamp (1.5) -/

/-- The last forwarded value of each target, in W and in 0.1 A (R17, R18). -/
structure OrderClamp where
  converter : Option Nat
  inlet : Option Nat
  deriving DecidableEq, Repr

/-! ## Drive Unit (02) -/

/-- A waiting drive frame: its function and content (2.3). Its destination and sequence are filled in when
it leaves (R24, R179). -/
inductive Drive where
  | switchSet (main dcInlet converter cargo : Bool)
  | isolationSet (closed : PerZone Bool)
  | heatSet (on : PerZone Bool)
  | injectorMode (mode : InjectorMode)
  | setpoint (watts : Nat)
  | currentRequest (deciAmps : Nat)
  deriving DecidableEq, Repr

/-- One entry of the branch map (2.1). CLOSED is true. -/
structure BranchEntry where
  claimPart : Bool
  claimSession : Bool
  shed : Bool
  quarantine : Bool
  commanded : Bool
  feedback : Option Bool
  change : Option (Awaiting Bool)
  faulty : Bool
  deriving DecidableEq, Repr

/-- The Drive Unit: branch map, drive queue and safe line (high is true). -/
structure DriveUnit where
  branches : PerBranch BranchEntry
  queue : List Drive
  safeLine : Bool
  deriving DecidableEq, Repr

/-! ## Metering Unit (03) -/

/-- An energy base (R35). -/
structure EnergyBase where
  register : Register32
  epoch : Byte
  time : Nat
  deriving DecidableEq, Repr

/-- One band of the TARIFF table. -/
structure TariffBand where
  start : Nat
  code : Byte
  rates : PerAccount Nat
  deriving DecidableEq, Repr

/-- The TARIFF table (3.6). -/
structure TariffTable where
  fallback : PerAccount Nat
  bands : List TariffBand
  deriving DecidableEq, Repr

/-- The active band (R48). -/
structure ActiveBand where
  index : Byte
  code : Byte
  rates : PerAccount Nat
  deriving DecidableEq, Repr

/-- What the Metering Unit keeps of the accruing segment beside the record: the cost mark and the costing
rates (3.7). -/
structure SegmentContext where
  mark : PerAccount Energy
  rates : PerAccount Nat
  deriving DecidableEq, Repr

/-- The Metering Unit. `clockPhase` is the model's own: ms since the clock's second last advanced (log 1). -/
structure Metering where
  inletBase : Option EnergyBase
  heaterBase : Option EnergyBase
  cargoBase : Option EnergyBase
  cargoPool : Nat
  heatPool : Nat
  inletSeen : Energy
  billed : Energy
  unbilled : Energy
  rejected : Energy
  clock : Option Clock
  clockPhase : Nat
  tariff : Option (Loaded TariffTable)
  band : ActiveBand
  segment : Option SegmentContext
  deriving DecidableEq, Repr

/-! ## Budget Arbiter (04) -/

/-- The source of power (R55). -/
inductive Source where
  | none | ac | dc | pack
  deriving DecidableEq, Repr

/-- The order in which power is granted (4.2). -/
inductive OrderMode where
  | heatFirst | chargeFirst
  deriving DecidableEq, Repr

/-- The BUDGET table (4.2). -/
structure BudgetTable where
  margin : Nat
  efficiency : Nat
  orderMode : OrderMode
  chargeFloor : Nat
  packHeatAllowance : Nat
  socFloor : Nat
  cargoMargin : Nat
  hysteresis : Nat
  deriving DecidableEq, Repr

/-- One zone of the heat request with its element power (R61). -/
structure HeatAsk where
  zone : Zone
  power : Nat
  bursting : Bool
  deriving DecidableEq, Repr

/-- The Budget Arbiter. `recomputeDue` is the model's own: a cause of recompute met in the present event
(log 11). -/
structure Budget where
  table : Option (Loaded BudgetTable)
  source : Source
  available : Nat
  window : List Nat
  reservation : Nat
  heatRequest : List HeatAsk
  chargeRequest : Nat
  heatGrant : Nat
  granted : List Zone
  chargeGrant : Nat
  basisAvailable : Nat
  basisReservation : Nat
  socAbove : Bool
  freeze : Bool
  overdrawn : Bool
  recomputeDue : Bool
  deriving DecidableEq, Repr

/-! ## Session Controller (05) -/

/-- One entry of the LIMIT table. -/
structure LimitEntry where
  upper : Int
  power : Nat
  deriving DecidableEq, Repr

/-- The LIMIT table (5.1). -/
structure LimitTable where
  inletGrace : Nat
  stopSocDefault : Nat
  entries : List LimitEntry
  deriving DecidableEq, Repr

/-- The session's states (5.2). -/
inductive SessionState where
  | closed | plugWait | connecting | preheat | charging | suspended | ending
  deriving DecidableEq, Repr

/-- The kind expected of a session, and the kind of a record. -/
inductive Kind where
  | ac | dc | any
  deriving DecidableEq, Repr

/-- The termination causes (5.8); NONE is the absence of one. -/
inductive Cause where
  | target | full | abort | unplug | inletStop | wrongInlet | contactor | converter | insulation
  | insulationUnknown | inletStale | quarantined | duration | split | reset
  deriving DecidableEq, Repr

/-- The set of suspension causes (R83). -/
structure SuspensionCauses where
  pause : Bool
  locate : Bool
  inletStale : Bool
  insulationUnknown : Bool
  deriving DecidableEq, Repr

/-- The three account tags. -/
structure Tags where
  t1 : BitVec 32
  t2 : BitVec 32
  t3 : BitVec 32
  deriving DecidableEq, Repr

/-- The Session Controller: LIMIT table, session context and timers (5.2), and its derived figures. Timers
hold the time they started. -/
structure Session where
  table : Option (Loaded LimitTable)
  state : SessionState
  kindExpected : Option Kind
  kindActual : Option ChargeKind
  recordNumber : Nat
  ordinal : Nat
  energyTarget : Option Nat
  tractionEnergy : Energy
  durationLimit : Option Nat
  stopSoc : Option Nat
  tailCount : Nat
  tags : Tags
  causes : SuspensionCauses
  resume : Option SessionState
  cause : Option Cause
  tailTaken : Nat
  durationStart : Option Nat
  inletGrace : Option Nat
  unknownGrace : Option Nat
  bandPower : Nat
  chargeEnable : Option Int
  drawLimit : Nat
  deriving DecidableEq, Repr

/-! ## Heating Controller (06) -/

/-- How many zones may burst at once (6.1). -/
inductive ConcurrencyMode where
  | all | pair | single
  deriving DecidableEq, Repr

/-- A zone's burst length (6.1). -/
inductive BurstKind where
  | short | long
  deriving DecidableEq, Repr

/-- One lead entry of the HEAT table. -/
structure LeadEntry where
  upper : Int
  lead : Nat
  deriving DecidableEq, Repr

/-- One zone record of the HEAT table. -/
structure ZoneRecord where
  power : Nat
  target : Int
  hysteresis : Int
  ceiling : Int
  kind : BurstKind
  rest : Nat
  maxExtensions : Nat
  deriving DecidableEq, Repr

/-- The HEAT table (6.1). -/
structure HeatTable where
  mode : ConcurrencyMode
  short : Nat
  long : Nat
  cap : Nat
  leads : List LeadEntry
  zones : PerZone ZoneRecord
  deriving DecidableEq, Repr

/-- The states of a zone (6.2). -/
inductive ZoneState where
  | off | waiting | burst | rest | quarantined
  deriving DecidableEq, Repr

/-- The nine endings of a burst (R107). -/
inductive Ending where
  | expired | hot | cut | stopped | stale | shed | tripped | unmonitored | reset
  deriving DecidableEq, Repr

/-- A zone's context (6.2). The burst order is the list of the controller. -/
structure ZoneContext where
  state : ZoneState
  demand : Bool
  effectiveTarget : Option Int
  elementPower : Option Nat
  extensions : Nat
  endTime : Option Nat
  lastEnding : Option Ending
  heatOn : Bool
  feedback : Option Bool
  change : Option (Awaiting Bool)
  mismatch : Bool
  deriving DecidableEq, Repr

/-- A running manual source (R114). -/
structure ManualSource where
  mask : PerZone Bool
  target : Option Int
  remaining : Nat
  deriving DecidableEq, Repr

/-- One entry of the departure list (R117). -/
structure Departure where
  minute : Nat
  target : Option Int
  weekly : Bool
  minutesToGo : Nat
  active : Bool
  deriving DecidableEq, Repr

/-- The Heating Controller. `preheat` is the preheat demand with its target as the controller holds it.
`demandDue` is the model's own: an event that evaluates demand was met in the present event (log 11). -/
structure Heating where
  table : Option (Loaded HeatTable)
  zones : PerZone ZoneContext
  waitList : List Zone
  burstOrder : List Zone
  preheat : Option Int
  manual : Option ManualSource
  departures : List Departure
  demandDue : Bool
  deriving DecidableEq, Repr

/-! ## Insulation Monitor (07) -/

/-- The monitor's states (7.4). -/
inductive MonitorState where
  | off | checking | faulty | settling | normal | warning | tripped | unknown
  deriving DecidableEq, Repr

/-- Why the monitor is UNKNOWN (R136). -/
inductive UnknownReason where
  | stale | mode
  deriving DecidableEq, Repr

/-- The measuring contexts (7.2). -/
inductive Context where
  | parked | ac | dcActive | dcListen
  deriving DecidableEq, Repr

/-- What the monitor enters at a wake (R140). -/
inductive WakeState where
  | checking | settling
  deriving DecidableEq, Repr

/-- A context record of the INSULATION table. -/
structure ContextRecord where
  warn : Nat
  trip : Nat
  confirm : Nat
  settle : Nat
  deriving DecidableEq, Repr

/-- The INSULATION table (7.3). -/
structure InsulationTable where
  grace : Nat
  autoLocate : Bool
  locateSettle : Nat
  locateConfirm : Nat
  expected : Nat
  tolerance : Nat
  samples : Nat
  parked : ContextRecord
  ac : ContextRecord
  dcActive : ContextRecord
  dcListen : ContextRecord
  shedList : List Branch
  deriving DecidableEq, Repr

/-- The Insulation Monitor. -/
structure Monitor where
  table : Option (Loaded InsulationTable)
  state : MonitorState
  reason : Option UnknownReason
  context : Context
  mode : InjectorMode
  change : Option (Awaiting InjectorMode)
  tripCount : Nat
  warnCount : Nat
  recoverCount : Nat
  settleTaken : Nat
  checkCount : Nat
  latest : Option Nat
  tripLatch : Bool
  wakeState : WakeState
  deriving DecidableEq, Repr

/-! ## Branch Locator (08) -/

/-- The phases of a locate step. -/
inductive Phase where
  | shedding | settling | confirming | restoring
  deriving DecidableEq, Repr

/-- The result of a locate step. -/
inductive StepResult where
  | notReached | skipped | notIsolated | faultRemains | culprit
  deriving DecidableEq, Repr

/-- A fault entry's verdict; a BUS verdict names no branch. -/
inductive Verdict where
  | quarantined | bus
  deriving DecidableEq, Repr

/-- One entry of the fault list (R154). `branch` is none for BUS. -/
structure FaultEntry where
  branch : Option Branch
  verdict : Verdict
  before : Nat
  after : Nat
  stamp : Option Clock
  recordNumber : Nat
  live : Bool
  deriving DecidableEq, Repr

/-- The Branch Locator: latch, inert flag, locate context and fault list. The step results have seven
places, one for each shed-list entry there may be. -/
structure Locator where
  latch : Bool
  inert : Bool
  active : Bool
  cursor : Nat
  phase : Phase
  sampleCount : Nat
  results : List StepResult
  before : Nat
  last : Nat
  recordNumber : Nat
  faults : List FaultEntry
  deriving DecidableEq, Repr

/-! ## Record Store (09) -/

/-- The six flags of a record (R163). -/
structure RecordFlags where
  discontinuity : Bool
  implausible : Bool
  merged : Bool
  clockUnset : Bool
  continuation : Bool
  tailCut : Bool
  deriving DecidableEq, Repr

/-- One segment of a record (R164). -/
structure Segment where
  index : Byte
  code : Byte
  energy : PerAccount Energy
  deriving DecidableEq, Repr

/-- A held record (R162), with the ring offset at which it starts (R159). -/
structure Record where
  number : Nat
  ordinal : Nat
  tags : Tags
  kind : Kind
  cause : Option Cause
  flags : RecordFlags
  openStamp : Option Clock
  closeStamp : Option Clock
  inlet : Energy
  energy : PerAccount Energy
  packDrawn : Energy
  tail : Energy
  cost : PerAccount Nat
  suspendCount : Nat
  lowest : Nat
  segments : List Segment
  start : Nat
  deriving DecidableEq, Repr

/-- The Record Store: the CLOSED records oldest first, and the OPEN record, always the newest (R161). -/
structure RecordStore where
  areaSize : Nat
  head : Nat
  tail : Nat
  closed : List Record
  opened : Option Record
  nextNumber : Nat
  borrow : Bool
  deriving DecidableEq, Repr

/-! ## Management Unit (10) -/

/-- The part's states (10.1). -/
inductive PartState where
  | held | run | dormant
  deriving DecidableEq, Repr

/-- Why the part last woke (R175). -/
inductive WakeReason where
  | none | command | interval | departure | plug
  deriving DecidableEq, Repr

/-- The six tables. -/
inductive TableId where
  | node | limit | budget | tariff | heat | insulation
  deriving DecidableEq, Repr

/-- The status codes, in the order of the table of R178. -/
inductive Status where
  | ok | queueFull | wrongState | range | storeFull | sessionBusy | noSession | noClock | overLimit
  | monitorFault | tripped | quarantined | stagingActive | notFound | tableInvalid | checksum | dormant
  | unknownCommand
  deriving DecidableEq, Repr

/-- An answer in the answer queue: its destination, code, tag, status, and the fields not yet sent
(R179, R190). -/
structure Answer where
  dst : Byte
  code : Byte
  tag : BitVec 16
  status : Status
  fields : List Byte
  deriving DecidableEq, Repr

/-- What happened to a zone (HEAT_ZONE: R104, R106, R107, R112, R113). -/
inductive ZoneEvent where
  | start
  | ended (ending : Ending) (entered : ZoneState)
  | extended (extensions : Nat)
  | quarantine
  | restore
  | mismatch (commanded : Bool) (reading : Option Bool)
  deriving DecidableEq, Repr

/-- Why CONTACTOR_MISMATCH is raised (R28, R29, R30). -/
inductive MismatchReason where
  | deadline | uncommanded | nodeStale
  deriving DecidableEq, Repr

/-- Why a departure is done (R118, R119). -/
inductive DepartureReason where
  | reached | passed
  deriving DecidableEq, Repr

/-- Why a self-check failed (R137). -/
inductive CheckFailure where
  | outOfTolerance | mode
  deriving DecidableEq, Repr

/-- Why a locate procedure is abandoned (R152). -/
inductive AbandonReason where
  | context | unknown | trip | reset
  deriving DecidableEq, Repr

/-- How a locate procedure ends (R153). -/
inductive LocateEnd where
  | quarantined (branch : Branch)
  | bus
  | abandoned (reason : AbandonReason)
  deriving DecidableEq, Repr

/-- The content of a notice, one constructor per kind of 10.4. -/
inductive NoticeBody where
  | sessionState (record : Nat) (left entered : SessionState) (causes : SuspensionCauses)
      (cause : Option Cause)
  | sessionClosed (record ordinal : Nat) (cause : Option Cause)
  | heatZone (zone : Zone) (event : ZoneEvent)
  | departureDone (minute : Nat) (target : Option Int) (weekly : Bool) (reason : DepartureReason)
      (coldest : Option Int)
  | insulationState (left entered : MonitorState) (context : Context) (latest : Option Nat)
      (reason : Option UnknownReason)
  | tripChange (latchSet : Bool) (context : Context) (reading : Nat) (threshold : Option Nat)
  | selfCheckResult (failure : Option CheckFailure) (count : Nat) (reading : Option Nat)
      (bandLow bandHigh : Nat)
  | locateResult (how : LocateEnd) (before last : Nat) (results : List StepResult) (record : Nat)
  | nodeState (role : Role) (address : Byte) (left entered : EntryState)
  | orderRefused (src : Byte) (kind : FrameKind) (target : Role)
  | contactorMismatch (branch : Branch) (commanded : Bool) (feedback : Option Bool)
      (reason : MismatchReason)
  | budgetOverdrawn (source : Source) (available reservation : Nat)
  | storeLow (free held oldest reserved : Nat)
  | tableCommitted (table : TableId) (length : Nat) (crc : BitVec 16)
  deriving DecidableEq, Repr

/-- A notice in the notice queue: its destination and clock stamp as formed at its raising (R180). -/
structure Notice where
  dst : Byte
  stamp : Option Clock
  body : NoticeBody
  deriving DecidableEq, Repr

/-- A staging in progress: LOADING with its table, declared length and 256-byte buffer (R183). -/
structure Staging where
  table : TableId
  length : Nat
  buffer : List Byte
  deriving DecidableEq, Repr

/-- A validation in progress: the time by which it is done at the latest, and whether it is done and waits
for a place in the answer queue (R184). -/
structure Validation where
  bound : Nat
  done : Bool
  deriving DecidableEq, Repr

/-- The Management Unit. `wakeAt` is the time the running wake interval expires. -/
structure Management where
  partState : PartState
  recordSize : Nat
  stagingSize : Nat
  noticeSize : Nat
  commands : List Frame
  answers : List Answer
  notices : List Notice
  mask : BitVec 16
  raised : BitVec 16
  noticeLost : Bool
  staging : Option Staging
  validation : Option Validation
  committed : List TableId
  wakeReason : WakeReason
  wakeAt : Option Nat
  outSeq : Byte
  deriving DecidableEq, Repr

/-! ## The part, and the machine -/

/-- Everything the manual gives the part. `now` is the part's timebase in ms (log 1). -/
structure Part where
  now : Nat
  chain : ChainPort
  nodes : NodeTable
  clamp : OrderClamp
  drive : DriveUnit
  meter : Metering
  budget : Budget
  session : Session
  heat : Heating
  monitor : Monitor
  locator : Locator
  store : RecordStore
  mgmt : Management
  deriving DecidableEq, Repr

/-- The machine: the part, and the commands that wait to be put to it, first in, first out. -/
structure State where
  part : Part
  pending : List Instr
  deriving DecidableEq, Repr

/-! ## Reset values -/

/-- The eight values are equal. -/
def PerRole.fill {α : Type} (a : α) : PerRole α := ⟨a, a, a, a, a, a, a, a⟩

/-- The eight values are equal. -/
def PerBranch.fill {α : Type} (a : α) : PerBranch α := ⟨a, a, a, a, a, a, a, a⟩

/-- The four values are equal. -/
def PerZone.fill {α : Type} (a : α) : PerZone α := ⟨a, a, a, a⟩

/-- The three values are equal. -/
def PerAccount.fill {α : Type} (a : α) : PerAccount α := ⟨a, a, a⟩

/-- R1: strap value 0 gives address 56, 1 gives 57, 2 gives 58 and 3 gives 59. -/
def strapAddress (strap : BitVec 2) : Byte := 56#8 + strap.setWidth 8

/-- R8, R1. The frame in transmission is given: none at power-on, kept by the reset input (log 29). -/
def ChainPort.initial (strap : BitVec 2) (portB : Option Frame) : ChainPort :=
  ⟨strapAddress strap, [], portB, false, false⟩

/-- An UNSEEN entry (R9, 1.4). -/
def EntryRuntime.initial : EntryRuntime := ⟨.unseen, none, none, none⟩

/-- 1.4: no table, and nothing of the runtime present. -/
def NodeTable.initial : NodeTable :=
  ⟨none, PerRole.fill EntryRuntime.initial, none, none, none, none, none, none, none⟩

/-- R19. -/
def OrderClamp.initial : OrderClamp := ⟨none, none⟩

/-- R32. -/
def BranchEntry.initial : BranchEntry := ⟨false, false, false, false, false, none, none, false⟩

/-- R32. -/
def DriveUnit.initial : DriveUnit := ⟨PerBranch.fill BranchEntry.initial, [], false⟩

/-- R48: no table in force gives the fallback with all three rates 0. -/
def ActiveBand.noTable : ActiveBand := ⟨255#8, 255#8, PerAccount.fill 0⟩

/-- 3.8. -/
def Metering.initial : Metering :=
  ⟨none, none, none, 0, 0, 0#48, 0#48, 0#48, 0#48, none, 0, none, ActiveBand.noTable, none⟩

/-- R70. -/
def Budget.initial : Budget :=
  ⟨none, .none, 0, [], 0, [], 0, 0, [], 0, 0, 0, false, false, false, false⟩

/-- The empty set of suspension causes. -/
def SuspensionCauses.empty : SuspensionCauses := ⟨false, false, false, false⟩

/-- The tags of a CLOSED session (5.2). -/
def Tags.zero : Tags := ⟨0#32, 0#32, 0#32⟩

/-- R98 and the "While CLOSED" column of 5.2. -/
def Session.initial : Session :=
  ⟨none, .closed, none, none, 0, 0, none, 0#48, none, none, 0, Tags.zero, SuspensionCauses.empty, none,
    none, 0, none, none, none, 0, none, 0⟩

/-- R123. -/
def ZoneContext.initial : ZoneContext :=
  ⟨.off, false, none, none, 0, none, none, false, none, none, false⟩

/-- R123. -/
def Heating.initial : Heating :=
  ⟨none, PerZone.fill ZoneContext.initial, [], [], none, none, [], false⟩

/-- R142. -/
def Monitor.initial : Monitor :=
  ⟨none, .off, none, .parked, .off, none, 0, 0, 0, 0, 0, none, false, .settling⟩

/-- R158: the context inactive with every field at 0 or NOT_REACHED. -/
def Locator.initial : Locator :=
  ⟨false, false, false, 0, .shedding, 0, List.replicate 7 .notReached, 0, 0, 0, []⟩

/-- R171. -/
def RecordStore.initial : RecordStore := ⟨12288, 0, 0, [], none, 1, false⟩

/-- R172: mask with the 14 kinds enabled. -/
def Management.initial : Management :=
  ⟨.held, 12288, 2048, 2048, [], [], [], 0x3FFF#16, 0#16, false, none, none, [], .none, none, 0#8⟩

/-- The part after power-on (R172 and the reset values of every chapter), with the frame that stays in
transmission at port B. The timebase starts at 0 (log 1). -/
def Part.initial (strap : BitVec 2) (portB : Option Frame) : Part :=
  { now := 0
    chain := ChainPort.initial strap portB
    nodes := NodeTable.initial
    clamp := OrderClamp.initial
    drive := DriveUnit.initial
    meter := Metering.initial
    budget := Budget.initial
    session := Session.initial
    heat := Heating.initial
    monitor := Monitor.initial
    locator := Locator.initial
    store := RecordStore.initial
    mgmt := Management.initial }

/-- The machine right after reset, strap pins read as 0 (log 6), no command waiting. -/
def State.reset : State := ⟨Part.initial 0#2 none, []⟩

end Sys2Proof.Machine
end

