-- ==== Sys2Proof/Machine/Bytes.lean ====
section
/-! DEFINITION. Bytes on the chain: numbers most significant byte first, the CRC, and the frame layout
(R189). -/

namespace Sys2Proof.Machine

/-! ## Numbers -/

/-- The low `k` bytes of `n`, most significant first (R189). -/
def beBytes : Nat → Nat → List Byte
  | 0, _ => []
  | k + 1, n => BitVec.ofNat 8 (n / 256 ^ k) :: beBytes k n

/-- The number a byte list spells, most significant byte first. -/
def beNat (bs : List Byte) : Nat := bs.foldl (fun acc b => acc * 256 + b.toNat) 0

/-- `count` bytes from position `at`. -/
def slice (bs : List Byte) (pos count : Nat) : List Byte := (bs.drop pos).take count

/-- The byte at a position (0 beyond the end). -/
def byteAt (bs : List Byte) (pos : Nat) : Byte := bs.getD pos 0#8

/-- The one-byte number at a position. -/
def u8 (bs : List Byte) (pos : Nat) : Nat := (byteAt bs pos).toNat

/-- The two-byte number at a position. -/
def u16 (bs : List Byte) (pos : Nat) : Nat := u8 bs pos * 256 + u8 bs (pos + 1)

/-- The three-byte number at a position. -/
def u24 (bs : List Byte) (pos : Nat) : Nat := u16 bs pos * 256 + u8 bs (pos + 2)

/-- The four-byte number at a position. -/
def u32 (bs : List Byte) (pos : Nat) : Nat := u16 bs pos * 65536 + u16 bs (pos + 2)

/-- The one-byte two's complement number at a position. -/
def i8 (bs : List Byte) (pos : Nat) : Int := (byteAt bs pos).toInt

/-- The two-byte two's complement number at a position. -/
def i16 (bs : List Byte) (pos : Nat) : Int := (BitVec.ofNat 16 (u16 bs pos)).toInt

/-- A flag byte is set when it is not 0 (R189). -/
def flagAt (bs : List Byte) (pos : Nat) : Bool := byteAt bs pos != 0#8

/-- Bit `k` of the byte at a position. -/
def bitAt (bs : List Byte) (pos k : Nat) : Bool := (byteAt bs pos).getLsbD k

/-! ## CRC-16 -/

/-- One bit through the register: generator x¹⁶ + x¹² + x⁵ + 1. -/
def crcBit (r : BitVec 16) : BitVec 16 := if r.msb then (r <<< 1) ^^^ 0x1021#16 else r <<< 1

/-- `k` bits through the register. -/
def crcBits : Nat → BitVec 16 → BitVec 16
  | 0, r => r
  | k + 1, r => crcBits k (crcBit r)

/-- One byte, most significant bit first. -/
def crcByte (r : BitVec 16) (b : Byte) : BitVec 16 := crcBits 8 (r ^^^ (b.setWidth 16 <<< 8))

/-- The CRC of frames and of staged images (R189): the register starts at 0xFFFF. -/
def crc16 (bs : List Byte) : BitVec 16 := bs.foldl crcByte 0xFFFF#16

/-! ## Frames -/

/-- The code of a frame kind (R189). -/
def FrameKind.code : FrameKind → Byte
  | .sample => 1#8
  | .order => 2#8
  | .drive => 3#8
  | .command => 4#8
  | .answer => 5#8
  | .notice => 6#8

/-- The kind of a code; a code outside 1..6 names none. -/
def FrameKind.ofCode (b : Byte) : Option FrameKind :=
  match b.toNat with
  | 1 => some .sample
  | 2 => some .order
  | 3 => some .drive
  | 4 => some .command
  | 5 => some .answer
  | 6 => some .notice
  | _ => none

/-- Header and payload of a frame (R189). -/
def Frame.body (f : Frame) : List Byte :=
  [f.src, f.dst, f.kind.code, f.seq, BitVec.ofNat 8 f.payload.length, f.marks] ++ f.payload

/-- A frame's bytes as they cross the chain (R189). -/
def Frame.bytes (f : Frame) : List Byte := f.body ++ beBytes 2 (crc16 f.body).toNat

/-- R2: the check of a frame received whole at port A. None when it fails. -/
def Frame.receive (bs : List Byte) : Option Frame :=
  let len := u8 bs 4
  if bs.length < 8 || 32 < len || bs.length != 8 + len then none
  else if u16 bs (6 + len) != (crc16 (bs.take (6 + len))).toNat then none
  else
    match FrameKind.ofCode (byteAt bs 2) with
    | none => none
    | some kind =>
      some ⟨byteAt bs 0, byteAt bs 1, kind, byteAt bs 3, byteAt bs 5, slice bs 6 len⟩

end Sys2Proof.Machine
end

