-- ==== Sys2Proof/Machine/Operands.lean ====
section
/-! DEFINITION. Reading and writing one member of a family (role, branch, zone, account), and the sets a
byte's bits spell. -/

namespace Sys2Proof.Machine

/-! ## Roles -/

/-- The eight roles in the order of their codes. -/
def allRoles : List Role :=
  [.gateway, .inlet, .pack, .heater, .cargo, .converter, .contactor, .injector]

/-- The value for a role. -/
def PerRole.get {α : Type} (m : PerRole α) : Role → α
  | .gateway => m.gateway
  | .inlet => m.inlet
  | .pack => m.pack
  | .heater => m.heater
  | .cargo => m.cargo
  | .converter => m.converter
  | .contactor => m.contactor
  | .injector => m.injector

/-- The family with the value for one role replaced. -/
def PerRole.set {α : Type} (m : PerRole α) (r : Role) (a : α) : PerRole α :=
  match r with
  | .gateway => { m with gateway := a }
  | .inlet => { m with inlet := a }
  | .pack => { m with pack := a }
  | .heater => { m with heater := a }
  | .cargo => { m with cargo := a }
  | .converter => { m with converter := a }
  | .contactor => { m with contactor := a }
  | .injector => { m with injector := a }

/-- A function applied to each value. -/
def PerRole.map {α β : Type} (f : α → β) (m : PerRole α) : PerRole β :=
  ⟨f m.gateway, f m.inlet, f m.pack, f m.heater, f m.cargo, f m.converter, f m.contactor, f m.injector⟩

/-! ## Branches -/

/-- The eight branches in the order of their codes. -/
def allBranches : List Branch :=
  [.main, .dcInlet, .converter, .cargo, .zone1, .zone2, .zone3, .zone4]

/-- The value for a branch. -/
def PerBranch.get {α : Type} (m : PerBranch α) : Branch → α
  | .main => m.main
  | .dcInlet => m.dcInlet
  | .converter => m.converter
  | .cargo => m.cargo
  | .zone1 => m.zone1
  | .zone2 => m.zone2
  | .zone3 => m.zone3
  | .zone4 => m.zone4

/-- The family with the value for one branch replaced. -/
def PerBranch.set {α : Type} (m : PerBranch α) (b : Branch) (a : α) : PerBranch α :=
  match b with
  | .main => { m with main := a }
  | .dcInlet => { m with dcInlet := a }
  | .converter => { m with converter := a }
  | .cargo => { m with cargo := a }
  | .zone1 => { m with zone1 := a }
  | .zone2 => { m with zone2 := a }
  | .zone3 => { m with zone3 := a }
  | .zone4 => { m with zone4 := a }

/-- A function applied to each value. -/
def PerBranch.map {α β : Type} (f : α → β) (m : PerBranch α) : PerBranch β :=
  ⟨f m.main, f m.dcInlet, f m.converter, f m.cargo, f m.zone1, f m.zone2, f m.zone3, f m.zone4⟩

/-- The node that carries a branch's switch (2.1). -/
def Branch.carrier : Branch → Role
  | .main => .contactor
  | .dcInlet => .contactor
  | .converter => .contactor
  | .cargo => .contactor
  | .zone1 => .heater
  | .zone2 => .heater
  | .zone3 => .heater
  | .zone4 => .heater

/-- The zone whose isolation switch a branch is, if it is one. -/
def Branch.zone : Branch → Option Zone
  | .main => none
  | .dcInlet => none
  | .converter => none
  | .cargo => none
  | .zone1 => some .z1
  | .zone2 => some .z2
  | .zone3 => some .z3
  | .zone4 => some .z4

/-! ## Zones -/

/-- The four zones, ascending. -/
def allZones : List Zone := [.z1, .z2, .z3, .z4]

/-- The value for a zone. -/
def PerZone.get {α : Type} (m : PerZone α) : Zone → α
  | .z1 => m.z1
  | .z2 => m.z2
  | .z3 => m.z3
  | .z4 => m.z4

/-- The family with the value for one zone replaced. -/
def PerZone.set {α : Type} (m : PerZone α) (z : Zone) (a : α) : PerZone α :=
  match z with
  | .z1 => { m with z1 := a }
  | .z2 => { m with z2 := a }
  | .z3 => { m with z3 := a }
  | .z4 => { m with z4 := a }

/-- A function applied to each value. -/
def PerZone.map {α β : Type} (f : α → β) (m : PerZone α) : PerZone β := ⟨f m.z1, f m.z2, f m.z3, f m.z4⟩

/-- The values in zone order. -/
def PerZone.toList {α : Type} (m : PerZone α) : List α := [m.z1, m.z2, m.z3, m.z4]

/-- A family built zone by zone. -/
def PerZone.build {α : Type} (f : Zone → α) : PerZone α := ⟨f .z1, f .z2, f .z3, f .z4⟩

/-- The branch of a zone. -/
def Zone.branch : Zone → Branch
  | .z1 => .zone1
  | .z2 => .zone2
  | .z3 => .zone3
  | .z4 => .zone4

/-! ## Accounts -/

/-- Two families combined account by account. -/
def PerAccount.zip {α β γ : Type} (f : α → β → γ) (a : PerAccount α) (b : PerAccount β) : PerAccount γ :=
  ⟨f a.traction b.traction, f a.heat b.heat, f a.cargo b.cargo⟩

/-- A function applied to each value. -/
def PerAccount.map {α β : Type} (f : α → β) (m : PerAccount α) : PerAccount β :=
  ⟨f m.traction, f m.heat, f m.cargo⟩

/-! ## Inlet kinds -/

/-- The inlet branch of a kind. -/
def ChargeKind.branch : ChargeKind → Branch
  | .ac => .converter
  | .dc => .dcInlet

/-- The record's kind for an actual kind. -/
def ChargeKind.toKind : ChargeKind → Kind
  | .ac => .ac
  | .dc => .dc

/-- R76: AC for kind expected AC, DC for DC, either for ANY. -/
def Kind.accepts (expected : Kind) (actual : ChargeKind) : Bool :=
  match expected, actual with
  | .ac, .ac => true
  | .ac, .dc => false
  | .dc, .ac => false
  | .dc, .dc => true
  | .any, _ => true

/-! ## Bit sets -/

/-- The set of zones that bits `k..k+3` of a byte spell. -/
def zoneBits (b : Byte) (k : Nat) : PerZone Bool :=
  ⟨b.getLsbD k, b.getLsbD (k + 1), b.getLsbD (k + 2), b.getLsbD (k + 3)⟩

/-- A flag as a byte: 1 when set. -/
def flagByte (b : Bool) : Byte := if b then 1#8 else 0#8

/-- Four flags as the low bits of a byte, the first lowest. -/
def nibble (a b c d : Bool) : Byte :=
  BitVec.ofNat 8 (a.toNat + 2 * b.toNat + 4 * c.toNat + 8 * d.toNat)

/-- A set of zones as the low bits of a byte. -/
def PerZone.nibble (m : PerZone Bool) : Byte := Machine.nibble m.z1 m.z2 m.z3 m.z4

end Sys2Proof.Machine
end

