-- ==== Sys2Proof/Machine/Codes.lean ====
section
/-! DEFINITION. The codes of the enumerations carried in frames and records (11.1, R190, R191) and of the
commands with their payload lengths (11.3). -/

namespace Sys2Proof.Machine

/-! ## Enumerations of 11.1 -/

def Role.code : Role → Byte
  | .gateway => 0#8
  | .inlet => 1#8
  | .pack => 2#8
  | .heater => 3#8
  | .cargo => 4#8
  | .converter => 5#8
  | .contactor => 6#8
  | .injector => 7#8

def Role.ofCode : Nat → Option Role
  | 0 => some .gateway
  | 1 => some .inlet
  | 2 => some .pack
  | 3 => some .heater
  | 4 => some .cargo
  | 5 => some .converter
  | 6 => some .contactor
  | 7 => some .injector
  | _ => none

def Branch.code : Branch → Byte
  | .main => 0#8
  | .dcInlet => 1#8
  | .converter => 2#8
  | .cargo => 3#8
  | .zone1 => 4#8
  | .zone2 => 5#8
  | .zone3 => 6#8
  | .zone4 => 7#8

/-- The seven branches a shed list or RESTORE_BRANCH may name (R127, R156); MAIN is not among them. -/
def Branch.ofSheddableCode : Nat → Option Branch
  | 1 => some .dcInlet
  | 2 => some .converter
  | 3 => some .cargo
  | 4 => some .zone1
  | 5 => some .zone2
  | 6 => some .zone3
  | 7 => some .zone4
  | _ => none

def PartState.code : PartState → Byte
  | .held => 0#8
  | .run => 1#8
  | .dormant => 2#8

def SessionState.code : SessionState → Byte
  | .closed => 0#8
  | .plugWait => 1#8
  | .connecting => 2#8
  | .preheat => 3#8
  | .charging => 4#8
  | .suspended => 5#8
  | .ending => 6#8

def MonitorState.code : MonitorState → Byte
  | .off => 0#8
  | .checking => 1#8
  | .faulty => 2#8
  | .settling => 3#8
  | .normal => 4#8
  | .warning => 5#8
  | .tripped => 6#8
  | .unknown => 7#8

def ChargeKind.code : ChargeKind → Byte
  | .ac => 0#8
  | .dc => 1#8

def Kind.code : Kind → Byte
  | .ac => 0#8
  | .dc => 1#8
  | .any => 2#8

def Kind.ofCode : Nat → Option Kind
  | 0 => some .ac
  | 1 => some .dc
  | 2 => some .any
  | _ => none

def Cause.code : Cause → Byte
  | .target => 1#8
  | .full => 2#8
  | .abort => 3#8
  | .unplug => 4#8
  | .inletStop => 5#8
  | .wrongInlet => 6#8
  | .contactor => 7#8
  | .converter => 8#8
  | .insulation => 9#8
  | .insulationUnknown => 10#8
  | .inletStale => 11#8
  | .quarantined => 12#8
  | .duration => 13#8
  | .split => 14#8
  | .reset => 15#8

/-- A cause that may be absent: NONE is 0. -/
def causeCode : Option Cause → Byte
  | none => 0#8
  | some c => c.code

/-- Bit 0 PAUSE, 1 LOCATE, 2 INLET_STALE, 3 INSULATION_UNKNOWN. -/
def SuspensionCauses.code (c : SuspensionCauses) : Byte :=
  nibble c.pause c.locate c.inletStale c.insulationUnknown

def Source.code : Source → Byte
  | .none => 0#8
  | .ac => 1#8
  | .dc => 2#8
  | .pack => 3#8

def Ending.code : Ending → Byte
  | .expired => 0#8
  | .hot => 1#8
  | .cut => 2#8
  | .stopped => 3#8
  | .stale => 4#8
  | .shed => 5#8
  | .tripped => 6#8
  | .unmonitored => 7#8
  | .reset => 8#8

def InjectorMode.code : InjectorMode → Byte
  | .off => 0#8
  | .active => 1#8
  | .listen => 2#8
  | .selfcheck => 3#8

def InjectorMode.ofCode : Nat → Option InjectorMode
  | 0 => some .off
  | 1 => some .active
  | 2 => some .listen
  | 3 => some .selfcheck
  | _ => none

def TableId.code : TableId → Byte
  | .node => 1#8
  | .limit => 2#8
  | .budget => 3#8
  | .tariff => 4#8
  | .heat => 5#8
  | .insulation => 6#8

def TableId.ofCode : Nat → Option TableId
  | 1 => some .node
  | 2 => some .limit
  | 3 => some .budget
  | 4 => some .tariff
  | 5 => some .heat
  | 6 => some .insulation
  | _ => none

def WakeReason.code : WakeReason → Byte
  | .none => 0#8
  | .command => 1#8
  | .interval => 2#8
  | .departure => 3#8
  | .plug => 4#8

def ZoneState.code : ZoneState → Byte
  | .off => 0#8
  | .waiting => 1#8
  | .burst => 2#8
  | .rest => 3#8
  | .quarantined => 4#8

def Phase.code : Phase → Byte
  | .shedding => 0#8
  | .settling => 1#8
  | .confirming => 2#8
  | .restoring => 3#8

/-- Status codes are numbered 0..17 in the order of the table of R178 (R190). -/
def Status.code : Status → Byte
  | .ok => 0#8
  | .queueFull => 1#8
  | .wrongState => 2#8
  | .range => 3#8
  | .storeFull => 4#8
  | .sessionBusy => 5#8
  | .noSession => 6#8
  | .noClock => 7#8
  | .overLimit => 8#8
  | .monitorFault => 9#8
  | .tripped => 10#8
  | .quarantined => 11#8
  | .stagingActive => 12#8
  | .notFound => 13#8
  | .tableInvalid => 14#8
  | .checksum => 15#8
  | .dormant => 16#8
  | .unknownCommand => 17#8

/-! ## Codes of R191 -/

def StepResult.code : StepResult → Byte
  | .notReached => 0#8
  | .skipped => 1#8
  | .notIsolated => 2#8
  | .faultRemains => 3#8
  | .culprit => 4#8

def UnknownReason.code : UnknownReason → Byte
  | .stale => 0#8
  | .mode => 1#8

def CheckFailure.code : CheckFailure → Byte
  | .outOfTolerance => 0#8
  | .mode => 1#8

def MismatchReason.code : MismatchReason → Byte
  | .deadline => 0#8
  | .uncommanded => 1#8
  | .nodeStale => 2#8

def DepartureReason.code : DepartureReason → Byte
  | .reached => 0#8
  | .passed => 1#8

def AbandonReason.code : AbandonReason → Byte
  | .context => 0#8
  | .unknown => 1#8
  | .trip => 2#8
  | .reset => 3#8

def Verdict.code : Verdict → Byte
  | .quarantined => 0#8
  | .bus => 1#8

/-! ## Codes the manual does not number (DESIGN CHOICE, log 18) -/

/-- UNSEEN, LIVE, STALE in the order of 1.3. -/
def EntryState.code : EntryState → Byte
  | .unseen => 0#8
  | .live => 1#8
  | .stale => 2#8

/-- PARKED, AC, DC_ACTIVE, DC_LISTEN in the order of 7.2. -/
def Context.code : Context → Byte
  | .parked => 0#8
  | .ac => 1#8
  | .dcActive => 2#8
  | .dcListen => 3#8

/-- CHECKING, SETTLING as codes of the monitor states they name. -/
def WakeState.code : WakeState → Byte
  | .checking => MonitorState.code .checking
  | .settling => MonitorState.code .settling

/-- A zone is written as its number 1..4. -/
def Zone.code : Zone → Byte
  | .z1 => 1#8
  | .z2 => 2#8
  | .z3 => 3#8
  | .z4 => 4#8

def ConcurrencyMode.code : ConcurrencyMode → Byte
  | .all => 0#8
  | .pair => 1#8
  | .single => 2#8

def OrderMode.code : OrderMode → Byte
  | .heatFirst => 0#8
  | .chargeFirst => 1#8

/-- A switch or heat-on state that may be absent: OPEN or OFF 0, CLOSED or ON 1, NONE all ones (0 is a
value of the field, R190). -/
def switchCode : Option Bool → Byte
  | none => 255#8
  | some b => flagByte b

/-- A fault entry's branch: 15 for BUS (11.1). -/
def faultBranchCode : Option Branch → Byte
  | none => 15#8
  | some b => b.code

/-! ## Notice kinds (10.4) -/

/-- A notice's number: its position in the mask and the raised bitmap. -/
def NoticeBody.number : NoticeBody → Nat
  | .sessionState .. => 0
  | .sessionClosed .. => 1
  | .heatZone .. => 2
  | .departureDone .. => 3
  | .insulationState .. => 4
  | .tripChange .. => 5
  | .selfCheckResult .. => 6
  | .locateResult .. => 7
  | .nodeState .. => 8
  | .orderRefused .. => 9
  | .contactorMismatch .. => 10
  | .budgetOverdrawn .. => 11
  | .storeLow .. => 12
  | .tableCommitted .. => 13

/-! ## Commands (11.3) -/

/-- The commands by name; RESET by its scope. A RESET whose payload length or scope names none of the
three is refused under the name of scope LINK (log 5). -/
inductive CommandName where
  | unknown | status | release | sleep | wake | configureMemory | setNoticeMask | loadBegin | loadData
  | loadCommit | loadCancel | readTable | resetLink | resetHeat | resetPart | readBranches | setClock
  | readBudget | openSession | pauseSession | resumeSession | abortSession | splitSession | sessionStatus
  | heatNow | heatStop | setDeparture | cancelDeparture | readHeat | clearTrip | selfCheck
  | readInsulation | locateNow | restoreBranch | readFaults | readRecord | releaseRecords
  deriving DecidableEq, Repr

/-- The command of a RESET payload, by its scope byte. -/
def resetName (payload : List Byte) : CommandName :=
  if payload.length != 4 then .resetLink
  else
    match u8 payload 3 with
    | 1 => .resetHeat
    | 2 => .resetPart
    | _ => .resetLink

/-- The command a payload names. One shorter than 3 bytes, or whose code names no command, is `unknown`
(R178). -/
def nameOf (payload : List Byte) : CommandName :=
  if payload.length < 3 then .unknown
  else
    match u8 payload 0 with
    | 0x01 => .status
    | 0x02 => .release
    | 0x03 => .sleep
    | 0x04 => .wake
    | 0x05 => .configureMemory
    | 0x06 => .setNoticeMask
    | 0x07 => .loadBegin
    | 0x08 => .loadData
    | 0x09 => .loadCommit
    | 0x0A => .loadCancel
    | 0x0B => .readTable
    | 0x0C => resetName payload
    | 0x10 => .readBranches
    | 0x11 => .setClock
    | 0x12 => .readBudget
    | 0x20 => .openSession
    | 0x21 => .pauseSession
    | 0x22 => .resumeSession
    | 0x23 => .abortSession
    | 0x24 => .splitSession
    | 0x25 => .sessionStatus
    | 0x30 => .heatNow
    | 0x31 => .heatStop
    | 0x32 => .setDeparture
    | 0x33 => .cancelDeparture
    | 0x34 => .readHeat
    | 0x40 => .clearTrip
    | 0x41 => .selfCheck
    | 0x42 => .readInsulation
    | 0x48 => .locateNow
    | 0x49 => .restoreBranch
    | 0x4A => .readFaults
    | 0x50 => .readRecord
    | 0x51 => .releaseRecords
    | _ => .unknown

/-- Step 2 of R178: whether a payload has the length 11.3 gives its command. -/
def lengthOk (name : CommandName) (length : Nat) : Bool :=
  match name with
  | .unknown => true
  | .status => length == 4
  | .release => length == 3
  | .sleep => length == 4
  | .wake => length == 3
  | .configureMemory => length == 9
  | .setNoticeMask => length == 5
  | .loadBegin => length == 6
  | .loadData => decide (4 ≤ length) && decide (length ≤ 28)
  | .loadCommit => length == 5
  | .loadCancel => length == 3
  | .readTable => length == 5
  | .resetLink => length == 4
  | .resetHeat => length == 4
  | .resetPart => length == 4
  | .readBranches => length == 3
  | .setClock => length == 8
  | .readBudget => length == 3
  | .openSession => length == 25
  | .pauseSession => length == 3
  | .resumeSession => length == 3
  | .abortSession => length == 3
  | .splitSession => length == 15
  | .sessionStatus => length == 3
  | .heatNow => length == 7
  | .heatStop => length == 3
  | .setDeparture => length == 7
  | .cancelDeparture => length == 5
  | .readHeat => length == 4
  | .clearTrip => length == 3
  | .selfCheck => length == 3
  | .readInsulation => length == 3
  | .locateNow => length == 3
  | .restoreBranch => length == 4
  | .readFaults => length == 4
  | .readRecord => length == 7
  | .releaseRecords => length == 5

/-- The commands taken in HELD (R178 step 4). -/
def CommandName.takenInHeld : CommandName → Bool
  | .status | .configureMemory | .setNoticeMask | .loadBegin | .loadData | .loadCommit | .loadCancel
  | .readTable | .setClock | .release | .resetLink | .resetHeat | .resetPart | .releaseRecords
  | .readBranches | .readBudget | .sessionStatus | .readHeat | .readInsulation | .readFaults
  | .readRecord => true
  | _ => false

/-- The commands examined in DORMANT (R178 step 3). -/
def CommandName.takenInDormant : CommandName → Bool
  | .status | .wake => true
  | _ => false

end Sys2Proof.Machine
end

