-- ==== Sys2Proof/Machine/Tables.lean ====
section
/-! DEFINITION. The six table images: the length an image's own counts give (11.5), what an image says,
and its validation with the offending index (R9, R71, R58, R47, R99, R127). -/

namespace Sys2Proof.Machine

/-- A number lies in a range that includes both ends. -/
def inRange (low high n : Nat) : Bool := decide (low ≤ n) && decide (n ≤ high)

/-- A signed number lies in a range that includes both ends. -/
def inRangeInt (low high n : Int) : Bool := decide (low ≤ n) && decide (n ≤ high)

/-- The length that an image's own counts give (11.5; step 2 of R184). -/
def impliedLength (t : TableId) (img : List Byte) : Nat :=
  match t with
  | .node => 72
  | .limit => 3 + 4 * u8 img 2
  | .budget => 14
  | .tariff => 7 + 9 * u8 img 0
  | .heat => 72 + 4 * u8 img 7
  | .insulation => 34 + u8 img 33

/-- The outcome of a validation: the offending index, or what the image says. -/
abbrev Judged (α : Type) := Except Nat α

/-- The value when a condition holds, else a fault at the index. -/
def require (ok : Bool) (index : Nat) : Judged Unit := if ok then .ok () else .error index

/-! ## NODE (R9) -/

/-- Whether a role's plausible increment is examined (R9). -/
def Role.metering : Role → Bool
  | .inlet | .heater | .cargo => true
  | _ => false

/-- The NODE entry at an index of the image, when its role code names a role. -/
def nodeEntryAt (img : List Byte) (k : Nat) : Option NodeEntry :=
  (Role.ofCode (u8 img (9 * k))).map fun r =>
    ⟨r, byteAt img (9 * k + 1), u16 img (9 * k + 2), u8 img (9 * k + 4), u32 img (9 * k + 5)⟩

/-- R9: one entry against its own conditions and the entries before it. Of two entries with one role, or
with one address, the later offends (log 16). -/
def nodeEntryOk (own : Byte) (before : List NodeEntry) (e : NodeEntry) : Bool :=
  before.all (fun f => f.role != e.role)
    && inRange 1 55 e.address.toNat
    && before.all (fun f => f.address != e.address)
    && e.address != own
    && inRange 10 2000 e.period
    && inRange 2 15 e.staleLimit
    && (!e.role.metering || inRange 1 4294967295 e.plausible)

/-- The remaining `n` entries from index `k`, judged in table order. -/
def judgeNodeFrom (own : Byte) (img : List Byte) : Nat → Nat → List NodeEntry → Judged (List NodeEntry)
  | 0, _, acc => .ok acc
  | n + 1, k, acc =>
    match nodeEntryAt img k with
    | none => .error k
    | some e => if nodeEntryOk own acc e then judgeNodeFrom own img n (k + 1) (acc ++ [e]) else .error k

/-- R9: the validation of a NODE image, given the part's own address. -/
def judgeNode (own : Byte) (img : List Byte) : Judged (List NodeEntry) := judgeNodeFrom own img 8 0 []

/-! ## LIMIT (R71) -/

/-- Entry `k` of a LIMIT image. -/
def limitEntryAt (img : List Byte) (k : Nat) : LimitEntry := ⟨i8 img (3 + 4 * k), u24 img (4 + 4 * k)⟩

/-- The remaining `n` entries from index `k`; `prev` is the upper temperature before them. -/
def judgeLimitFrom (img : List Byte) : Nat → Nat → Option Int → List LimitEntry → Judged (List LimitEntry)
  | 0, _, _, acc => .ok acc
  | n + 1, k, prev, acc =>
    let e := limitEntryAt img k
    let ordered := match prev with
      | none => true
      | some u => decide (u < e.upper)
    if inRangeInt (-40) 70 e.upper && ordered && decide (e.power ≤ 150000) then
      judgeLimitFrom img n (k + 1) (some e.upper) (acc ++ [e])
    else .error k

/-- R71: the validation of a LIMIT image. -/
def judgeLimit (img : List Byte) : Judged LimitTable :=
  let n := u8 img 2
  if inRange 1 60 (u8 img 0) && inRange 50 100 (u8 img 1) && inRange 1 12 n then
    match judgeLimitFrom img n 0 none [] with
    | .error k => .error k
    | .ok entries =>
      if entries.any (fun e => decide (0 < e.power)) then .ok ⟨u8 img 0, u8 img 1, entries⟩
      else .error (n - 1)
  else .error 0

/-! ## BUDGET (R58) -/

/-- R58: the validation of a BUDGET image. -/
def judgeBudget (img : List Byte) : Judged BudgetTable := do
  require (decide (u16 img 0 ≤ 5000)) 0
  require (inRange 800 1000 (u16 img 2)) 1
  require (decide (u8 img 4 ≤ 1)) 2
  require (decide (u16 img 5 ≤ 50000)) 3
  require (decide (u16 img 7 ≤ 12000)) 4
  require (inRange 10 90 (u8 img 9)) 5
  require (decide (u16 img 10 ≤ 2000)) 6
  require (inRange 100 5000 (u16 img 12)) 7
  .ok ⟨u16 img 0, u16 img 2, if u8 img 4 = 0 then .heatFirst else .chargeFirst, u16 img 5, u16 img 7,
    u8 img 9, u16 img 10, u16 img 12⟩

/-! ## TARIFF (R47) -/

/-- Three two-byte rates from a position. -/
def ratesAt (img : List Byte) (pos : Nat) : PerAccount Nat :=
  ⟨u16 img pos, u16 img (pos + 2), u16 img (pos + 4)⟩

/-- Band `k` of a TARIFF image. -/
def tariffBandAt (img : List Byte) (k : Nat) : TariffBand :=
  ⟨u16 img (7 + 9 * k), byteAt img (9 + 9 * k), ratesAt img (10 + 9 * k)⟩

/-- The remaining `n` bands from index `k`; `prev` is the start before them. -/
def judgeTariffFrom (img : List Byte) : Nat → Nat → Option Nat → List TariffBand → Judged (List TariffBand)
  | 0, _, _, acc => .ok acc
  | n + 1, k, prev, acc =>
    let b := tariffBandAt img k
    let ordered := match prev with
      | none => true
      | some s => decide (s < b.start)
    if decide (b.start ≤ 10079) && ordered then
      judgeTariffFrom img n (k + 1) (some b.start) (acc ++ [b])
    else .error k

/-- R47: the validation of a TARIFF image. -/
def judgeTariff (img : List Byte) : Judged TariffTable :=
  if inRange 1 16 (u8 img 0) then
    match judgeTariffFrom img (u8 img 0) 0 none [] with
    | .error k => .error k
    | .ok bands => .ok ⟨ratesAt img 1, bands⟩
  else .error 0

/-! ## HEAT (R99) -/

/-- Lead entry `k` (from 0) of a HEAT image. -/
def leadEntryAt (img : List Byte) (k : Nat) : LeadEntry := ⟨i16 img (8 + 4 * k), u16 img (10 + 4 * k)⟩

/-- The remaining `n` lead entries from index `k` (from 0); a fault gives the entry's number from 1. -/
def judgeLeadsFrom (img : List Byte) : Nat → Nat → Option Int → List LeadEntry → Judged (List LeadEntry)
  | 0, _, _, acc => .ok acc
  | n + 1, k, prev, acc =>
    let e := leadEntryAt img k
    let ordered := match prev with
      | none => true
      | some u => decide (u < e.upper)
    if inRangeInt (-40) 70 e.upper && ordered && decide (e.lead ≤ 240) then
      judgeLeadsFrom img n (k + 1) (some e.upper) (acc ++ [e])
    else .error (k + 1)

/-- Zone record at a position of a HEAT image. -/
def zoneRecordAt (img : List Byte) (pos : Nat) : ZoneRecord :=
  ⟨u16 img pos, i8 img (pos + 2), i8 img (pos + 3), i8 img (pos + 4),
    if u8 img (pos + 5) = 0 then .short else .long, u16 img (pos + 6), u8 img (pos + 8)⟩

/-- R99: the ranges of a zone record. -/
def zoneRecordOk (img : List Byte) (pos : Nat) : Bool :=
  let r := zoneRecordAt img pos
  inRange 500 3000 r.power && inRangeInt 0 40 r.target && inRangeInt 1 10 r.hysteresis
    && inRangeInt 30 60 r.ceiling && decide (r.target < r.ceiling) && decide (u8 img (pos + 5) ≤ 1)
    && inRange 5 600 r.rest && decide (r.maxExtensions ≤ 7)

/-- R99: the validation of a HEAT image. -/
def judgeHeat (img : List Byte) : Judged HeatTable :=
  let k := u8 img 7
  if decide (u8 img 0 ≤ 2) && inRange 5 120 (u16 img 1) && inRange 30 600 (u16 img 3)
      && decide (u16 img 1 < u16 img 3) && decide (u16 img 5 ≤ 20000) && inRange 1 6 k then do
    let leads ← judgeLeadsFrom img k 0 none []
    let base := 8 + 4 * k
    require (zoneRecordOk img base) 7
    require (zoneRecordOk img (base + 16)) 8
    require (zoneRecordOk img (base + 32)) 9
    require (zoneRecordOk img (base + 48)) 10
    let mode : ConcurrencyMode := match u8 img 0 with
      | 0 => .all
      | 1 => .pair
      | _ => .single
    .ok ⟨mode, u16 img 1, u16 img 3, u16 img 5, leads,
      ⟨zoneRecordAt img base, zoneRecordAt img (base + 16), zoneRecordAt img (base + 32),
        zoneRecordAt img (base + 48)⟩⟩
  else .error 0

/-! ## INSULATION (R127) -/

/-- Context record `k` (0 PARKED to 3 DC_LISTEN) of an INSULATION image. -/
def contextRecordAt (img : List Byte) (k : Nat) : ContextRecord :=
  ⟨u16 img (9 + 6 * k), u16 img (11 + 6 * k), u8 img (13 + 6 * k), u8 img (14 + 6 * k)⟩

/-- R127: the ranges of a context record; the trip threshold lies in 20..warn − 1. -/
def contextRecordOk (r : ContextRecord) : Bool :=
  inRange 50 10000 r.warn && decide (20 ≤ r.trip) && decide (r.trip < r.warn)
    && inRange 1 15 r.confirm && decide (r.settle ≤ 15)

/-- The shed list of `n` codes from a position: none when a code names no branch that may be shed, or when
a branch stands twice (R127). -/
def shedListFrom (img : List Byte) : Nat → Nat → List Branch → Option (List Branch)
  | 0, _, acc => some acc
  | n + 1, pos, acc =>
    match Branch.ofSheddableCode (u8 img pos) with
    | none => none
    | some b => if acc.contains b then none else shedListFrom img n (pos + 1) (acc ++ [b])

/-- R127: the validation of an INSULATION image. -/
def judgeInsulation (img : List Byte) : Judged InsulationTable := do
  require (inRange 2 120 (u8 img 0) && inRange 1 10 (u8 img 2) && inRange 1 5 (u8 img 3)
    && inRange 100 10000 (u16 img 4) && inRange 10 200 (u16 img 6) && inRange 2 8 (u8 img 8)) 0
  require (contextRecordOk (contextRecordAt img 0)) 1
  require (contextRecordOk (contextRecordAt img 1)) 2
  require (contextRecordOk (contextRecordAt img 2)) 3
  require (contextRecordOk (contextRecordAt img 3)) 4
  require (inRange 1 7 (u8 img 33)) 5
  match shedListFrom img (u8 img 33) 34 [] with
  | none => .error 5
  | some shed =>
    .ok ⟨u8 img 0, flagAt img 1, u8 img 2, u8 img 3, u16 img 4, u16 img 6, u8 img 8,
      contextRecordAt img 0, contextRecordAt img 1, contextRecordAt img 2, contextRecordAt img 3, shed⟩

/-! ## Figures read from a table -/

/-- The context record of a context (7.3). -/
def InsulationTable.record (t : InsulationTable) : Context → ContextRecord
  | .parked => t.parked
  | .ac => t.ac
  | .dcActive => t.dcActive
  | .dcListen => t.dcListen

/-- R127: the warn threshold plus the floor of the warn threshold ÷ 8. -/
def ContextRecord.recover (r : ContextRecord) : Nat := r.warn + r.warn / 8

/-- R137: the acceptance band, expected less and plus the floor of expected × tolerance ÷ 1,000. -/
def InsulationTable.acceptBand (t : InsulationTable) : Nat × Nat :=
  let d := t.expected * t.tolerance / 1000
  (t.expected - d, t.expected + d)

/-- R73: the charge-enable temperature from the entries in order; `before` is the upper temperature of
the entry of power 0 just before. -/
def chargeEnableFrom : List LimitEntry → Option Int → Option Int
  | [], _ => none
  | e :: rest, before =>
    if 0 < e.power then
      match before with
      | none => some (-40)
      | some u => some (u + 1)
    else chargeEnableFrom rest (some e.upper)

/-- R73: the charge-enable temperature of a table. -/
def LimitTable.chargeEnable (t : LimitTable) : Option Int := chargeEnableFrom t.entries none

/-- The smallest of the four zone minimum temperatures (R72). -/
def PackReadings.coldest (r : PackReadings) : Int :=
  min (min r.temps.z1.low r.temps.z2.low) (min r.temps.z3.low r.temps.z4.low)

/-- The largest of the four zone maximum temperatures. -/
def PackReadings.hottest (r : PackReadings) : Int :=
  max (max r.temps.z1.high r.temps.z2.high) (max r.temps.z3.high r.temps.z4.high)

/-- R72: the power of the first entry whose upper temperature is at or above the coldest minimum; 0 when a
maximum exceeds the last entry's upper temperature. A sample may carry minimums above its maximums (R11), and when
no entry applies though no maximum exceeds the last entry, the figure is a free value (log 45). -/
def LimitTable.bandPower (t : LimitTable) (r : PackReadings) : Nat :=
  match t.entries.getLast? with
  | none => 0
  | some last =>
    if last.upper < r.hottest then 0
    else
      match t.entries.find? (fun e => decide (r.coldest ≤ e.upper)) with
      | none => Config.unstatedBandPower last.upper r.coldest
      | some e => e.power

/-- The lead of the first lead entry at or above a coldest minimum; 0 beyond the last (R117). -/
def HeatTable.leadAt (t : HeatTable) (coldest : Int) : Nat :=
  match t.leads.find? (fun e => decide (coldest ≤ e.upper)) with
  | none => 0
  | some e => e.lead

/-- The largest lead of the lead table (R117, R175). -/
def HeatTable.largestLead (t : HeatTable) : Nat := t.leads.foldl (fun m e => max m e.lead) 0

/-- The burst length of a zone record, in s. -/
def HeatTable.burstSeconds (t : HeatTable) (r : ZoneRecord) : Nat :=
  match r.kind with
  | .short => t.short
  | .long => t.long

/-- The number of bands whose start is at or below a minute; bands lie in rising order of start. -/
def startedBands (bands : List TariffBand) (minute : Nat) : Nat :=
  (bands.takeWhile (fun b => decide (b.start ≤ minute))).length

/-- R48: the active band of a table at a clock value. -/
def TariffTable.bandAt (t : TariffTable) (clock : Option Clock) : ActiveBand :=
  match clock with
  | none => ⟨255#8, 255#8, t.fallback⟩
  | some c =>
    let n := startedBands t.bands c.minute
    let index := if n = 0 then t.bands.length - 1 else n - 1
    match t.bands[index]? with
    | none => ⟨255#8, 255#8, t.fallback⟩
    | some b => ⟨BitVec.ofNat 8 index, b.code, b.rates⟩

/-- R48: the active band of the table in force, if any. -/
def activeBand (table : Option (Loaded TariffTable)) (clock : Option Clock) : ActiveBand :=
  match table with
  | none => ActiveBand.noTable
  | some t => t.table.bandAt clock

end Sys2Proof.Machine
end

