-- ==== Sys2Proof/Machine/Ops.lean ====
section
/-! DEFINITION. The shared operations every block uses: updating one block, looking a node up, raising a
notice (R180), queuing a drive (R24), and the exact sum of an energy. -/

namespace Sys2Proof.Machine

/-! ## Updating one block -/

def Part.modChain (p : Part) (f : ChainPort → ChainPort) : Part := { p with chain := f p.chain }

def Part.modNodes (p : Part) (f : NodeTable → NodeTable) : Part := { p with nodes := f p.nodes }

def Part.modClamp (p : Part) (f : OrderClamp → OrderClamp) : Part := { p with clamp := f p.clamp }

def Part.modDrive (p : Part) (f : DriveUnit → DriveUnit) : Part := { p with drive := f p.drive }

def Part.modMeter (p : Part) (f : Metering → Metering) : Part := { p with meter := f p.meter }

def Part.modBudget (p : Part) (f : Budget → Budget) : Part := { p with budget := f p.budget }

def Part.modSession (p : Part) (f : Session → Session) : Part := { p with session := f p.session }

def Part.modHeat (p : Part) (f : Heating → Heating) : Part := { p with heat := f p.heat }

def Part.modMonitor (p : Part) (f : Monitor → Monitor) : Part := { p with monitor := f p.monitor }

def Part.modLocator (p : Part) (f : Locator → Locator) : Part := { p with locator := f p.locator }

def Part.modStore (p : Part) (f : RecordStore → RecordStore) : Part := { p with store := f p.store }

def Part.modMgmt (p : Part) (f : Management → Management) : Part := { p with mgmt := f p.mgmt }

/-- One branch's entry of the branch map replaced. -/
def Part.modBranch (p : Part) (b : Branch) (f : BranchEntry → BranchEntry) : Part :=
  p.modDrive fun d => { d with branches := d.branches.set b (f (d.branches.get b)) }

/-- Every branch's entry of the branch map replaced. -/
def Part.modBranches (p : Part) (f : BranchEntry → BranchEntry) : Part :=
  p.modDrive fun d => { d with branches := d.branches.map f }

/-- One zone's context replaced. -/
def Part.modZone (p : Part) (z : Zone) (f : ZoneContext → ZoneContext) : Part :=
  p.modHeat fun h => { h with zones := h.zones.set z (f (h.zones.get z)) }

/-- Every zone's context replaced. -/
def Part.modZones (p : Part) (f : ZoneContext → ZoneContext) : Part :=
  p.modHeat fun h => { h with zones := h.zones.map f }

/-- One entry's runtime replaced. -/
def Part.modEntry (p : Part) (r : Role) (f : EntryRuntime → EntryRuntime) : Part :=
  p.modNodes fun n => { n with runtime := n.runtime.set r (f (n.runtime.get r)) }

/-- The entry of a branch. -/
def Part.branch (p : Part) (b : Branch) : BranchEntry := p.drive.branches.get b

/-- The context of a zone. -/
def Part.zone (p : Part) (z : Zone) : ZoneContext := p.heat.zones.get z

/-! ## Looking a node up -/

/-- The entries of the NODE table in force (none before the first commit). -/
def Part.entries (p : Part) : List NodeEntry :=
  match p.nodes.table with
  | none => []
  | some t => t.table

/-- The entry of a role. -/
def Part.entryOf (p : Part) (r : Role) : Option NodeEntry := p.entries.find? (fun e => e.role == r)

/-- The entry whose address is the given one (R10). -/
def Part.entryAt (p : Part) (a : Byte) : Option NodeEntry := p.entries.find? (fun e => e.address == a)

/-- The address of a role's entry, if a NODE table is in force. -/
def Part.addressOf (p : Part) (r : Role) : Option Byte := (p.entryOf r).map (fun e => e.address)

/-- A role's entry is LIVE. -/
def Part.live (p : Part) (r : Role) : Bool := (p.nodes.runtime.get r).state == .live

/-- A NODE table is in force. -/
def Part.hasNodeTable (p : Part) : Bool := p.nodes.table.isSome

/-- The part is in RUN. -/
def Part.inRun (p : Part) : Bool := p.mgmt.partState == .run

/-- The Insulation Monitor is TRIPPED. -/
def Part.tripped (p : Part) : Bool := p.monitor.state == .tripped

/-- The PACK readings while the entry is LIVE. -/
def Part.livePack (p : Part) : Option PackReadings := if p.live .pack then p.nodes.pack else none

/-- The INLET readings while the entry is LIVE. -/
def Part.liveInlet (p : Part) : Option InletReadings := if p.live .inlet then p.nodes.inlet else none

/-! ## Notices (R180) -/

/-- The capacity of the notice queue: notice size ÷ 32 (10.2). -/
def Part.noticeCapacity (p : Part) : Nat := p.mgmt.noticeSize / 32

/-- The destination of a notice: the GATEWAY entry's address, or 0 with no NODE table in force. -/
def Part.noticeDestination (p : Part) : Byte := (p.addressOf .gateway).getD 0#8

/-- R180: a block raises a notice. The kind's position is latched whatever the mask. A kind that is
enabled forms a frame, which joins the queue when there is room and is otherwise dropped with NOTICE_LOST
set. -/
def Part.raise (p : Part) (body : NoticeBody) : Part :=
  p.modMgmt fun m =>
    let bit := 1#16 <<< body.number
    let m := { m with raised := m.raised ||| bit }
    if m.mask &&& bit = 0#16 then m
    else if m.notices.length < p.noticeCapacity then
      { m with notices := m.notices ++ [⟨p.noticeDestination, p.meter.clock, body⟩] }
    else { m with noticeLost := true }

/-! ## Drives (R24) -/

/-- Two drives have the same target node and function. -/
def Drive.sameFunction : Drive → Drive → Bool
  | .switchSet .., .switchSet .. => true
  | .isolationSet _, .isolationSet _ => true
  | .heatSet _, .heatSet _ => true
  | .injectorMode _, .injectorMode _ => true
  | .setpoint _, .setpoint _ => true
  | .currentRequest _, .currentRequest _ => true
  | _, _ => false

/-- The node a drive goes to (2.3). -/
def Drive.target : Drive → Role
  | .switchSet .. => .contactor
  | .isolationSet _ => .heater
  | .heatSet _ => .heater
  | .injectorMode _ => .injector
  | .setpoint _ => .converter
  | .currentRequest _ => .inlet

/-- R24: a waiting frame of the same node and function takes the new content and keeps its place; else the
new frame joins the tail. -/
def coalesce (q : List Drive) (d : Drive) : List Drive :=
  if q.any (fun e => e.sameFunction d) then q.map (fun e => if e.sameFunction d then d else e)
  else q ++ [d]

/-- R24: a block queues a drive frame. A drive is queued only while a NODE table is in force. -/
def Part.queueDrive (p : Part) (d : Drive) : Part :=
  if p.hasNodeTable then p.modDrive fun u => { u with queue := coalesce u.queue d } else p

/-! ## Quantities -/

/-- The switch deadline: 300 ms (2.4, R113, R124). -/
def switchDeadline : Nat := 300

/-- The sum of a 48-bit energy and an amount: exact while it fits, and otherwise a free value, since the
manual states no result there (log 8). -/
def addEnergy (e : Energy) (n : Nat) : Energy :=
  let sum := e.toNat + n
  if sum < 2 ^ 48 then BitVec.ofNat 48 sum else Config.unstatedEnergySum sum

/-- A part-wide counter counts modulo 2⁴⁸ (R44). -/
def addCounter (c : Energy) (n : Nat) : Energy := c + BitVec.ofNat 48 n

/-- A pool saturates at 4,294,967,295 (R39). -/
def addPool (pool n : Nat) : Nat := min (pool + n) 4294967295

/-- A cost saturates at 4,294,967,295 (R162). -/
def addCost (cost n : Nat) : Nat := min (cost + n) 4294967295

end Sys2Proof.Machine
end

