-- ==== Sys2Proof/Machine/Branches.lean ====
section
/-! DEFINITION. The Drive Unit's decisions (02): claims, the condition of R21, the commanded states with
their pending changes and drives, and the contexts that follow from the branch map (7.2). -/

namespace Sys2Proof.Machine

/-! ## Claims (R20) -/

/-- The branches the PART claims in RUN: MAIN, CARGO and ZONE1..ZONE4. -/
def Branch.partClaimed : Branch → Bool
  | .dcInlet => false
  | .converter => false
  | _ => true

/-- The part enters or leaves RUN: the PART claims are added or removed. -/
def Part.setPartClaims (p : Part) (on : Bool) : Part :=
  p.modDrive fun d => { d with branches :=
    { d.branches with
      main := { d.branches.main with claimPart := on }
      cargo := { d.branches.cargo with claimPart := on }
      zone1 := { d.branches.zone1 with claimPart := on }
      zone2 := { d.branches.zone2 with claimPart := on }
      zone3 := { d.branches.zone3 with claimPart := on }
      zone4 := { d.branches.zone4 with claimPart := on } } }

/-- The session's claim on the inlet branch of a kind is added. -/
def Part.claimInlet (p : Part) (k : ChargeKind) : Part :=
  p.modBranch k.branch fun e => { e with claimSession := true }

/-- The session's claim is removed, whichever inlet branch it was on. -/
def Part.releaseInlet (p : Part) : Part :=
  p.modDrive fun d => { d with branches :=
    { d.branches with
      dcInlet := { d.branches.dcInlet with claimSession := false }
      converter := { d.branches.converter with claimSession := false } } }

/-! ## The commanded state (R21) -/

/-- A branch's claim condition: its claims set is not empty (R20). -/
def BranchEntry.claimed (e : BranchEntry) : Bool := e.claimPart || e.claimSession

/-- R21: the five conditions, over an entry and the two inputs all branches share. -/
def BranchEntry.closes (e : BranchEntry) (inRun tripped : Bool) : Bool :=
  e.claimed && !e.shed && !e.quarantine && inRun && !tripped

/-- R21: a branch is to be commanded CLOSED. -/
def Part.shouldClose (p : Part) (b : Branch) : Bool := (p.branch b).closes p.inRun p.tripped

/-- R26: an entry with its commanded state decided again: a change of it gives a pending change with a
deadline 300 ms on. -/
def BranchEntry.decided (e : BranchEntry) (inRun tripped : Bool) (now : Nat) : BranchEntry :=
  let c := e.closes inRun tripped
  if c = e.commanded then e else { e with commanded := c, change := some ⟨c, now + switchDeadline⟩ }

/-- The SWITCH_SET that carries the commanded states of a branch map. -/
def switchSetOf (m : PerBranch BranchEntry) : Drive :=
  .switchSet m.main.commanded m.dcInlet.commanded m.converter.commanded m.cargo.commanded

/-- The ISOLATION_SET that carries the commanded states of a branch map. -/
def isolationSetOf (m : PerBranch BranchEntry) : Drive :=
  .isolationSet ⟨m.zone1.commanded, m.zone2.commanded, m.zone3.commanded, m.zone4.commanded⟩

/-- R21, R23, R25, R26: every branch decided again at the end of an event, with one drive to each node
that carries a changed branch, and the safe line following MAIN. -/
def Part.decideBranches (p : Part) : Part :=
  let old := p.drive.branches
  let new := old.map (fun e => e.decided p.inRun p.tripped p.now)
  let q := p.modDrive fun d => { d with branches := new, safeLine := new.main.commanded }
  let q := if switchSetOf new = switchSetOf old then q else q.queueDrive (switchSetOf new)
  if isolationSetOf new = isolationSetOf old then q else q.queueDrive (isolationSetOf new)

/-! ## What else follows from the branch map -/

/-- R126: an inlet branch counts as closed while it is commanded CLOSED, or OPEN only because it is shed:
its claim condition holds, its quarantine flag is clear, the part is in RUN and the monitor not TRIPPED. -/
def Part.countsClosed (p : Part) (b : Branch) : Bool :=
  (p.branch b).claimed && !(p.branch b).quarantine && p.inRun && !p.tripped

/-- The charger's monitor is active: the latest reading is set; an absent reading counts as not (R126). -/
def Part.chargerMonitorActive (p : Part) : Bool :=
  match p.nodes.inlet with
  | none => false
  | some r => r.monitorActive

/-- R126: the context the branch map and the latest INLET readings give. -/
def Part.contextNow (p : Part) : Context :=
  if p.countsClosed .converter then .ac
  else if p.countsClosed .dcInlet then
    if p.chargerMonitorActive then .dcListen else .dcActive
  else .parked

/-- R55: the source that part state, monitor and commanded states give. -/
def Part.sourceNow (p : Part) : Source :=
  if !p.inRun || p.tripped then .none
  else if (p.branch .converter).commanded then .ac
  else if (p.branch .dcInlet).commanded then .dc
  else .pack

/-- No branch in a kind expected's reach is free of quarantine (R75, R77). -/
def Part.noFreeInlet (p : Part) : Kind → Bool
  | .ac => (p.branch .converter).quarantine
  | .dc => (p.branch .dcInlet).quarantine
  | .any => (p.branch .converter).quarantine && (p.branch .dcInlet).quarantine

end Sys2Proof.Machine
end

