-- ==== Sys2Proof/Machine/Flags.lean ====
section
/-! DEFINITION. The set of suspension causes (R83): testing, adding and removing one of the four. -/

namespace Sys2Proof.Machine

/-- The four suspension causes by name. -/
inductive Suspension where
  | pause | locate | inletStale | insulationUnknown
  deriving DecidableEq, Repr

/-- A cause is in the set. -/
def SuspensionCauses.has (c : SuspensionCauses) : Suspension → Bool
  | .pause => c.pause
  | .locate => c.locate
  | .inletStale => c.inletStale
  | .insulationUnknown => c.insulationUnknown

/-- A cause put into the set or taken out of it. -/
def SuspensionCauses.put (c : SuspensionCauses) (which : Suspension) (on : Bool) : SuspensionCauses :=
  match which with
  | .pause => { c with pause := on }
  | .locate => { c with locate := on }
  | .inletStale => { c with inletStale := on }
  | .insulationUnknown => { c with insulationUnknown := on }

/-- The set is empty. -/
def SuspensionCauses.isEmpty (c : SuspensionCauses) : Bool :=
  !c.pause && !c.locate && !c.inletStale && !c.insulationUnknown

/-- The states in which a session may terminate and holds no tail: PLUG_WAIT..SUSPENDED. -/
def SessionState.running : SessionState → Bool
  | .plugWait | .connecting | .preheat | .charging | .suspended => true
  | .closed | .ending => false

/-- CONNECTING..SUSPENDED (R20). -/
def SessionState.connected : SessionState → Bool
  | .connecting | .preheat | .charging | .suspended => true
  | .closed | .plugWait | .ending => false

/-- CONNECTING, PREHEAT or CHARGING: the states a first suspension cause suspends (R83). -/
def SessionState.suspendable : SessionState → Bool
  | .connecting | .preheat | .charging => true
  | .closed | .plugWait | .suspended | .ending => false

/-- PREHEAT or CHARGING: the states that draw power (R82) and in which FULL is judged (R89). -/
def SessionState.drawing : SessionState → Bool
  | .preheat | .charging => true
  | .closed | .plugWait | .connecting | .suspended | .ending => false

end Sys2Proof.Machine
end

