-- ==== Sys2Proof/Machine/Records.lean ====
section
/-! DEFINITION. The Record Store (09): sizes and free space, reservation, closing, release, and the bytes
of a record (11.6). -/

namespace Sys2Proof.Machine

/-! ## Sizes (R159) -/

/-- The closed size of a record: 96 + 24 × its segment count. -/
def Record.size (r : Record) : Nat := 96 + 24 * r.segments.length

/-- The full reservation of an OPEN record. -/
def reservation : Nat := 288

/-- The bytes a standing borrow occupies (R170). -/
def RecordStore.borrowed (s : RecordStore) : Nat := if s.borrow then 256 else 0

/-- The bytes the OPEN record occupies. -/
def RecordStore.openSize (s : RecordStore) : Nat := if s.opened.isSome then reservation else 0

/-- The sum of the sizes of a list of CLOSED records. -/
def closedSize (rs : List Record) : Nat := (rs.map Record.size).sum

/-- R159: the area size less the sizes of the held records, less 256 while a borrow stands. -/
def RecordStore.free (s : RecordStore) : Nat :=
  s.areaSize - (closedSize s.closed + s.openSize + s.borrowed)

/-- The held records, oldest first. -/
def RecordStore.held (s : RecordStore) : List Record := s.closed ++ s.opened.toList

/-- The number of the oldest held record, 0 when none. -/
def RecordStore.oldest (s : RecordStore) : Nat :=
  match s.held with
  | [] => 0
  | r :: _ => r.number

/-- The number of the newest held record, 0 when none. -/
def RecordStore.newest (s : RecordStore) : Nat :=
  match s.held.getLast? with
  | none => 0
  | some r => r.number

/-- A session is open: in any state other than CLOSED (5). -/
def Part.sessionOpen (p : Part) : Bool := p.session.state != .closed

/-- R160: the number after a record number, from 65,535 to 1. -/
def followingNumber (n : Nat) : Nat := if n = 65535 then 1 else n + 1

/-! ## Writing the OPEN record -/

/-- The OPEN record, if any, rewritten. -/
def Part.modRecord (p : Part) (f : Record → Record) : Part :=
  p.modStore fun s => { s with opened := s.opened.map f }

/-- One of the flags of R163 set on the OPEN record, if any. -/
def Part.flagRecord (p : Part) (f : RecordFlags → RecordFlags) : Part :=
  p.modRecord fun r => { r with flags := f r.flags }

/-! ## Costing (R52 to R54) -/

/-- A segment's energy less its cost mark. Only an energy that overflowed to a free value (log 8) lies below its mark,
and the manual states no result there (log 50). -/
def energySince (energy mark : Energy) : Nat :=
  if mark.toNat ≤ energy.toNat then energy.toNat - mark.toNat else Config.unstatedEnergySince energy mark

/-- The cost of the energy one account has taken since its mark, in milli-units (R52 step 1). -/
def costSince (energy mark : Energy) (rate : Nat) : Nat := energySince energy mark * rate / 1000000

/-- The energies of the accruing segment: the last. -/
def Record.lastEnergy (r : Record) : PerAccount Energy :=
  match r.segments.getLast? with
  | none => PerAccount.fill 0#48
  | some s => s.energy

/-- The cost the last segment has accrued since its mark, account by account. -/
def Record.pendingCost (r : Record) (c : SegmentContext) : PerAccount Nat :=
  ⟨costSince r.lastEnergy.traction c.mark.traction c.rates.traction,
    costSince r.lastEnergy.heat c.mark.heat c.rates.heat,
    costSince r.lastEnergy.cargo c.mark.cargo c.rates.cargo⟩

/-- R52 step 1, R54: the last segment costed into the record's costs. -/
def Record.costed (r : Record) (c : SegmentContext) : Record :=
  { r with cost := PerAccount.zip addCost r.cost (r.pendingCost c) }

/-- A segment as it opens (R50, R52). -/
def Segment.fresh (b : ActiveBand) : Segment := ⟨b.index, b.code, PerAccount.fill 0#48⟩

/-- The segment context of a fresh segment. -/
def SegmentContext.fresh (b : ActiveBand) : SegmentContext := ⟨PerAccount.fill 0#48, b.rates⟩

/-- The last segment of a record rewritten. -/
def onLast (f : Segment → Segment) : List Segment → List Segment
  | [] => []
  | [s] => [f s]
  | s :: t :: rest => s :: onLast f (t :: rest)

/-- R52, R53: a segment boundary. With fewer than 8 segments a new one opens under the active band; with 8
the eighth is MERGED and its mark moves. With no record OPEN nothing is formed. -/
def Part.formBoundary (p : Part) : Part :=
  match p.store.opened, p.meter.segment with
  | some r, some c =>
    let r := r.costed c
    let band := p.meter.band
    if r.segments.length < 8 then
      (p.modStore fun s => { s with opened := some { r with segments := r.segments ++ [Segment.fresh band] } })
        |>.modMeter fun m => { m with segment := some (SegmentContext.fresh band) }
    else
      (p.modStore fun s => { s with opened := some { r with
          segments := onLast (fun g => { g with index := 254#8 }) r.segments
          flags := { r.flags with merged := true } } })
        |>.modMeter fun m => { m with segment := some ⟨r.lastEnergy, band.rates⟩ }
  | _, _ => p

/-! ## Reservation (R161) and closing (R165) -/

/-- R167: after a reservation, or a borrow (reserved 0), STORE_LOW is raised while fewer than 576 bytes
are free. -/
def Part.storeLowCheck (p : Part) (reserved : Nat) : Part :=
  if p.store.free < 576 then
    p.raise (.storeLow p.store.free p.store.held.length p.store.oldest reserved)
  else p

/-- A record as it opens (R162), with its first segment (R50). -/
def Part.freshRecord (p : Part) (ordinal : Nat) (tags : Tags) (kind : Kind) (continuation : Bool)
    (suspendCount : Nat) : Record :=
  { number := p.store.nextNumber
    ordinal := ordinal
    tags := tags
    kind := kind
    cause := none
    flags := ⟨false, false, false, p.meter.clock.isNone, continuation, false⟩
    openStamp := p.meter.clock
    closeStamp := none
    inlet := 0#48
    energy := PerAccount.fill 0#48
    packDrawn := 0#48
    tail := 0#48
    cost := PerAccount.fill 0
    suspendCount := suspendCount
    lowest := 65535
    segments := [Segment.fresh p.meter.band]
    start := p.store.head }

/-- R161: a record reserved at the head and opened, its first segment under the active band (R50), then
the check of R167. -/
def Part.openRecord (p : Part) (ordinal : Nat) (tags : Tags) (kind : Kind) (continuation : Bool)
    (suspendCount : Nat) : Part :=
  let r := p.freshRecord ordinal tags kind continuation suspendCount
  ((p.modStore fun s => { s with
      opened := some r
      head := (s.head + reservation) % s.areaSize
      nextNumber := followingNumber s.nextNumber })
    |>.modMeter fun m => { m with segment := some (SegmentContext.fresh m.band) })
    |>.storeLowCheck r.number

/-- The record as R54 and R165 leave it: its last segment costed, its close stamp written. -/
def Part.finalRecord (p : Part) (r : Record) : Record :=
  let r := match p.meter.segment with
    | none => r
    | some c => r.costed c
  { r with closeStamp := p.meter.clock }

/-- R165: the OPEN record closes, is trimmed to its segment count and locked. -/
def Part.closeRecord (p : Part) : Part :=
  match p.store.opened with
  | none => p
  | some r =>
    let r := p.finalRecord r
    (p.modStore fun s => { s with
        closed := s.closed ++ [r]
        opened := none
        head := (r.start + r.size) % s.areaSize })
      |>.modMeter fun m => { m with segment := none }

/-! ## Reading (R168, 11.6) -/

/-- A clock stamp in 5 bytes; an unset stamp has minute 0xFFFF, week 0 and second 0 (11.1). -/
def stampBytes : Option Clock → List Byte
  | none => [0#8, 0#8, 0xFF#8, 0xFF#8, 0#8]
  | some c => beBytes 2 c.week ++ beBytes 2 c.minute ++ beBytes 1 c.second

/-- An energy in 6 bytes. -/
def energyBytes (e : Energy) : List Byte := beBytes 6 e.toNat

/-- The three account tags. -/
def Tags.bytes (t : Tags) : List Byte :=
  beBytes 4 t.t1.toNat ++ beBytes 4 t.t2.toNat ++ beBytes 4 t.t3.toNat

/-- The flags byte of a record (11.6). -/
def RecordFlags.byte (f : RecordFlags) : Byte :=
  BitVec.ofNat 8 (f.discontinuity.toNat + 2 * f.implausible.toNat + 4 * f.merged.toNat
    + 8 * f.clockUnset.toNat + 16 * f.continuation.toNat + 32 * f.tailCut.toNat)

/-- A segment in 24 bytes (11.6). -/
def Segment.bytes (s : Segment) : List Byte :=
  [s.index, s.code] ++ energyBytes s.energy.traction ++ energyBytes s.energy.heat
    ++ energyBytes s.energy.cargo ++ List.replicate 4 0#8

/-- The header of a record in 96 bytes (11.6). -/
def Record.headerBytes (r : Record) : List Byte :=
  beBytes 2 r.number ++ beBytes 2 r.ordinal ++ beBytes 8 Config.uniqueId.toNat ++ r.tags.bytes
    ++ [r.kind.code, causeCode r.cause, r.flags.byte, BitVec.ofNat 8 r.segments.length]
    ++ stampBytes r.openStamp ++ stampBytes r.closeStamp
    ++ energyBytes r.inlet ++ energyBytes r.energy.traction ++ energyBytes r.energy.heat
    ++ energyBytes r.energy.cargo ++ energyBytes r.packDrawn ++ energyBytes r.tail
    ++ beBytes 4 r.cost.traction ++ beBytes 4 r.cost.heat ++ beBytes 4 r.cost.cargo
    ++ beBytes 2 r.suspendCount ++ beBytes 2 r.lowest ++ List.replicate 6 0#8

/-- The readable bytes of a record: the header and its segments (R164, R168). -/
def Record.bytes (r : Record) : List Byte := r.headerBytes ++ (r.segments.map Segment.bytes).flatten

/-- The held record with a number. -/
def RecordStore.find (s : RecordStore) (number : Nat) : Option Record :=
  s.held.find? (fun r => r.number == number)

/-! ## Releasing (R169) -/

/-- R169: the records from the oldest up to the named CLOSED one leave; the tail moves to the end of the
named record, or to the head when no record is left. -/
def RecordStore.release (s : RecordStore) (number : Nat) : RecordStore :=
  let rest := (s.closed.dropWhile (fun r => r.number != number)).drop 1
  let tail := match s.closed.find? (fun r => r.number == number) with
    | none => s.tail
    | some r => (r.start + r.size) % s.areaSize
  let t := { s with closed := rest, tail := tail }
  if t.held.isEmpty then { t with tail := t.head } else t

end Sys2Proof.Machine
end

