-- ==== Sys2Proof/Machine/Metering.lean ====
section
/-! DEFINITION. The Metering Unit (03): bases and increments, pools, attribution, part-wide counters, the
clock and the active band. -/

namespace Sys2Proof.Machine

/-! ## Bases and increments (R35 to R37) -/

/-- The energy base of a role. -/
def Metering.base (m : Metering) : Role → Option EnergyBase
  | .inlet => m.inletBase
  | .heater => m.heaterBase
  | .cargo => m.cargoBase
  | _ => none

/-- The energy base of a metering role replaced. -/
def Metering.setBase (m : Metering) (r : Role) (b : Option EnergyBase) : Metering :=
  match r with
  | .inlet => { m with inletBase := b }
  | .heater => { m with heaterBase := b }
  | .cargo => { m with cargoBase := b }
  | _ => m

/-- R36: the increment of a sample against a base: the register's advance modulo 2³², or the register
itself when the epoch changed. -/
def increment (b : EnergyBase) (register : Register32) (epoch : Byte) : Nat :=
  if epoch = b.epoch then (register - b.register).toNat else register.toNat

/-- R37: the plausibility limit of a role's entry for the time since the base. -/
def plausibleLimit (e : NodeEntry) (elapsedMs : Nat) : Nat := e.plausible * max 1 (elapsedMs / e.period)

/-- What R36 and R37 make of a metering sample. -/
inductive Metered where
  | baseOnly
  | accepted (amount : Nat)
  | rejected (amount : Nat)
  deriving DecidableEq, Repr

/-- R36, R37: the outcome of a metering sample taken now. -/
def Part.judgeMeter (p : Part) (e : NodeEntry) (register : Register32) (epoch : Byte) : Metered :=
  match p.meter.base e.role with
  | none => .baseOnly
  | some b =>
    let n := increment b register epoch
    if n ≤ plausibleLimit e (p.now - b.time) then .accepted n else .rejected n

/-- R36: the sample's epoch differs from a base that is present. -/
def Part.discontinuous (p : Part) (r : Role) (epoch : Byte) : Bool :=
  match p.meter.base r with
  | none => false
  | some b => epoch != b.epoch

/-- R35, R36, R37: the base moves to the sample; an epoch change sets DISCONTINUITY and a rejected
increment IMPLAUSIBLE on the OPEN record, if any. -/
def Part.moveBase (p : Part) (e : NodeEntry) (register : Register32) (epoch : Byte) : Part :=
  let q := p.modMeter fun m => m.setBase e.role (some ⟨register, epoch, p.now⟩)
  let q := if p.discontinuous e.role epoch then q.flagRecord (fun f => { f with discontinuity := true }) else q
  match p.judgeMeter e register epoch with
  | .rejected _ => q.flagRecord (fun f => { f with implausible := true })
  | _ => q

/-! ## Attribution (R40 to R43) -/

/-- The division of an inlet increment (R40). -/
structure Shares where
  traction : Nat
  heat : Nat
  cargo : Nat
  packDrawn : Nat
  deriving DecidableEq, Repr

/-- R40: cargo is covered first, then heat, and traction takes what is left. -/
def shares (e cargoPool heatPool : Nat) : Shares :=
  let cargo := min cargoPool e
  let heat := min heatPool (e - cargo)
  ⟨e - cargo - heat, heat, cargo, (cargoPool - cargo) + (heatPool - heat)⟩

/-- The shares an inlet increment has as the pools stand. -/
def Part.sharesOf (p : Part) (e : Nat) : Shares := shares e p.meter.cargoPool p.meter.heatPool

/-- Shares added to three account energies. -/
def addShares (a : PerAccount Energy) (s : Shares) : PerAccount Energy :=
  ⟨addEnergy a.traction s.traction, addEnergy a.heat s.heat, addEnergy a.cargo s.cargo⟩

/-- R41: an attribution written into the OPEN record and its last segment. -/
def Record.attribute (r : Record) (e : Nat) (s : Shares) : Record :=
  { r with
    inlet := addEnergy r.inlet e
    energy := addShares r.energy s
    segments := onLast (fun g => { g with energy := addShares g.energy s }) r.segments
    packDrawn := addEnergy r.packDrawn s.packDrawn }

/-- R40 to R42: an accepted inlet increment attributed; the pools are set to 0. -/
def Part.attribute (p : Part) (e : Nat) : Part :=
  let s := p.sharesOf e
  let q := p.modRecord (fun r => r.attribute e s)
  q.modMeter fun m =>
    let m := { m with cargoPool := 0, heatPool := 0, inletSeen := addCounter m.inletSeen e }
    if p.store.opened.isSome then { m with billed := addCounter m.billed e }
    else { m with unbilled := addCounter m.unbilled e }

/-- R43: a rejected inlet increment. -/
def Part.rejectInlet (p : Part) (e : Nat) : Part :=
  p.modMeter fun m => { m with
    inletSeen := addCounter m.inletSeen e, rejected := addCounter m.rejected e }

/-! ## The clock (R45) and the active band (R48) -/

/-- R48: the active band looked up again. -/
def Part.lookUpBand (p : Part) : Part :=
  p.modMeter fun m => { m with band := activeBand m.tariff m.clock }

/-- The band in force after a lookup differs in index from the one before it (R51). -/
def Part.bandMoves (p : Part) : Bool := (activeBand p.meter.tariff p.meter.clock).index != p.meter.band.index

/-- R48, R51: the band looked up again, with a boundary when its index changes. -/
def Part.refreshBand (p : Part) : Part :=
  if p.bandMoves then p.lookUpBand.formBoundary else p.lookUpBand

/-- R45: the minute after a clock value, at second 0; the week wraps from 65,535 to 0. -/
def Clock.nextMinute (c : Clock) : Clock :=
  if c.minute + 1 < 10080 then ⟨c.week, c.minute + 1, 0⟩
  else ⟨if c.week = 65535 then 0 else c.week + 1, 0, 0⟩

end Sys2Proof.Machine
end

