-- ==== Sys2Proof/Machine/Charging.lean ====
section
/-! DEFINITION. The Session Controller's operations (05): band power, charge request, state changes,
suspension, termination, tail and closing. -/

namespace Sys2Proof.Machine

/-! ## Derived figures -/

/-- R72: band power at the present pack temperatures. -/
def Part.bandPowerNow (p : Part) : Nat :=
  match p.session.table, p.livePack with
  | some t, some r => t.table.bandPower r
  | _, _ => 0

/-- R79: the stop SOC in force: the session's own, or the LIMIT table's default. -/
def Part.stopSoc (p : Part) : Option Nat :=
  match p.session.stopSoc with
  | some s => some s
  | none => p.session.table.map (fun t => t.table.stopSocDefault)

/-- R89: the PACK entry is LIVE with an SOC reading at or above the stop SOC in force. -/
def Part.packFull (p : Part) : Bool :=
  match p.livePack, p.stopSoc with
  | some r, some s => decide (s ≤ r.soc)
  | _, _ => false

/-- R79: the charge request. -/
def Part.chargeAsk (p : Part) : Nat :=
  match p.session.state, p.livePack, p.stopSoc with
  | .charging, some r, some s => if r.soc < s then p.session.bandPower else 0
  | _, _, _ => 0

/-- The session's inlet branch while it claims one: the branch of its kind actual in
CONNECTING..SUSPENDED. -/
def Part.ownsInlet (p : Part) (b : Branch) : Bool :=
  p.session.state.connected &&
    match p.session.kindActual with
    | none => false
    | some k => k.branch == b

/-! ## Changes of state (R74) -/

/-- The session enters a state other than CLOSED, and SESSION_STATE is raised. -/
def Part.enterSession (p : Part) (st : SessionState) : Part :=
  let s := p.session
  (p.modSession fun s => { s with state := st }).raise
    (.sessionState s.recordNumber s.state st s.causes (if st = .ending then s.cause else none))

/-- The session context of a CLOSED session (5.2); the table and the figures that do not belong to a
session are kept. -/
def Session.closedContext (s : Session) : Session :=
  { Session.initial with table := s.table, bandPower := s.bandPower, chargeEnable := s.chargeEnable }

/-- R91: the session closes: its record closes, its context takes the CLOSED values, and SESSION_CLOSED
is raised. -/
def Part.closeSession (p : Part) : Part :=
  let s := p.session
  (p.closeRecord.modSession Session.closedContext).raise (.sessionClosed s.recordNumber s.ordinal s.cause)

/-- R92: the tail of a session in ENDING is cut; TAIL_CUT is set when the tail taken is below the tail
count. -/
def Part.cutTail (p : Part) : Part :=
  if p.session.state = .ending then
    (if p.session.tailTaken < p.session.tailCount then
        p.flagRecord (fun f => { f with tailCut := true })
      else p).closeSession
  else p

/-- R92: what cuts a tail at the entry into ENDING: INLET not LIVE, plug NONE, or the monitor TRIPPED. It holds for
an INLET_STALE termination too, as R92 says, where the expiry-first case of R84 speaks of a session that is still
in ENDING at the returning sample; the model follows R92 (log 43). -/
def Part.tailImpossible (p : Part) : Bool :=
  p.tripped ||
    match p.liveInlet with
    | none => true
    | some r => !r.plugPresent

/-- R91, R92: the tail begins at the entry into ENDING, or ends at once. -/
def Part.beginTail (p : Part) : Part :=
  if p.session.tailCount = 0 then p.closeSession
  else if p.tailImpossible then p.cutTail
  else p

/-- R87: the context of a session as a termination leaves it, before it enters ENDING. The stopped duration timer keeps
no elapsed time, so R97 shows it as absent in ENDING: the model's choice (log 51). -/
def Session.terminated (s : Session) (c : Cause) : Session :=
  { s with
    cause := some c
    causes := SuspensionCauses.empty
    resume := none
    durationStart := none
    inletGrace := none
    unknownGrace := none }

/-- R87: a termination. In ENDING and CLOSED it changes nothing. -/
def Part.terminate (p : Part) (c : Cause) : Part :=
  if p.session.state.running then
    ((((p.modSession fun s => s.terminated c).modRecord fun r => { r with cause := some c }).enterSession
      .ending).releaseInlet).beginTail
  else p

/-! ## Preheat, charging and FULL (R81, R89) -/

/-- R89: the FULL test, made in PREHEAT and CHARGING. -/
def Part.checkFull (p : Part) : Part :=
  if p.session.state.drawing && p.packFull then p.terminate .full else p

/-- R81: band power moves the session between PREHEAT and CHARGING. -/
def Part.moveByBand (p : Part) : Part :=
  match p.session.state with
  | .preheat => if 0 < p.session.bandPower then p.enterSession .charging else p
  | .charging => if p.session.bandPower = 0 then p.enterSession .preheat else p
  | _ => p

/-- R78: the session leaves CONNECTING for PREHEAT or CHARGING; FULL is judged at the entry. -/
def Part.enterPowered (p : Part) : Part :=
  (p.enterSession (if p.session.bandPower = 0 then .preheat else .charging)).checkFull

/-- R78: the session's inlet branch is commanded CLOSED, has no pending change and has feedback CLOSED. -/
def Part.inletSettled (p : Part) : Bool :=
  match p.session.kindActual with
  | none => false
  | some k =>
    let e := p.branch k.branch
    p.shouldClose k.branch && e.commanded && e.change.isNone && e.feedback == some true

/-! ## Suspension (R83) -/

/-- R162: the suspend count rises by one and stops at 65,535. -/
def Record.suspendedOnce (r : Record) : Record := { r with suspendCount := min (r.suspendCount + 1) 65535 }

/-- R83: a suspension cause is added. PAUSE alone joins the set in PLUG_WAIT. -/
def Part.addCause (p : Part) (c : Suspension) : Part :=
  let s := p.session
  if s.state.suspendable then
    ((p.modSession fun s => { s with causes := s.causes.put c true, resume := some s.state }).modRecord
      Record.suspendedOnce).enterSession .suspended
  else if s.state = .suspended || (s.state = .plugWait && c = .pause) then
    p.modSession fun s => { s with causes := s.causes.put c true }
  else p

/-- R83: the tests a resumed session meets: R78 in CONNECTING, R81 then FULL in PREHEAT and CHARGING
(log 21). -/
def Part.resumeTests (p : Part) : Part :=
  match p.session.state with
  | .connecting => if p.inletSettled then p.enterPowered else p
  | _ => p.moveByBand.checkFull

/-- R83: the session returns to its resume state. -/
def Part.resumeSession (p : Part) : Part :=
  let st := p.session.resume.getD .connecting
  ((p.modSession fun s => { s with resume := none }).enterSession st).resumeTests

/-- R83: a suspension cause is removed; the last one resumes a SUSPENDED session. -/
def Part.removeCause (p : Part) (c : Suspension) : Part :=
  if p.session.causes.has c then
    let q := p.modSession fun s => { s with causes := s.causes.put c false }
    if q.session.state = .suspended && q.session.causes.isEmpty then q.resumeSession else q
  else p

/-! ## Waiting for the plug (R76 to R78) -/

/-- R90: kind actual AC and a LIVE CONVERTER entry whose latest state is FAULT. -/
def Part.converterFault (p : Part) : Bool :=
  p.session.kindActual == some .ac && p.live .converter && p.nodes.converter == some .fault

/-- R78: entry into CONNECTING with a kind actual. -/
def Part.enterConnecting (p : Part) (k : ChargeKind) : Part :=
  let q := ((p.modSession fun s => { s with kindActual := some k }).modRecord
    fun r => { r with kind := k.toKind }).enterSession .connecting
  let q := q.claimInlet k
  if q.converterFault then q.terminate .converter else q

/-- R76: the conditions on the monitor and the Locator. -/
def Part.monitorReady (p : Part) : Bool :=
  (p.monitor.state == .normal || p.monitor.state == .warning) && !p.locator.active

/-- R76, R77: the tests of PLUG_WAIT. -/
def Part.plugWait (p : Part) : Part :=
  match p.session.state, p.session.kindExpected with
  | .plugWait, some expected =>
    match p.liveInlet with
    | some r =>
      if r.plugPresent && !expected.accepts r.kind then p.terminate .wrongInlet
      else if (r.plugPresent && (p.branch r.kind.branch).quarantine) || p.noFreeInlet expected then
        p.terminate .quarantined
      else if r.plugPresent && r.ready && p.session.causes.isEmpty && p.monitorReady then
        p.enterConnecting r.kind
      else p
    | none => if p.noFreeInlet expected then p.terminate .quarantined else p
  | _, _ => p

/-! ## Reports from other blocks (R90, R91) -/

/-- R90: the Drive Unit reports a failed change or an uncommanded movement of a branch. -/
def Part.reportContactor (p : Part) (b : Branch) : Part :=
  if p.ownsInlet b then p.terminate .contactor else p

/-- R41, R89: a traction share is added to the session's traction energy, and TARGET is judged. -/
def Part.addTraction (p : Part) (n : Nat) : Part :=
  if p.sessionOpen then
    let q := p.modSession fun s => { s with tractionEnergy := addEnergy s.tractionEnergy n }
    match q.session.energyTarget with
    | none => q
    | some t => if t ≤ q.session.tractionEnergy.toNat then q.terminate .target else q
  else p

/-- R91: an inlet increment accepted in ENDING is taken into the tail; the tail count completes it. -/
def Part.takeTail (p : Part) (n : Nat) : Part :=
  let q := (p.modRecord fun r => { r with tail := addEnergy r.tail n }).modSession
    fun s => { s with tailTaken := s.tailTaken + 1 }
  if q.session.tailCount ≤ q.session.tailTaken then q.closeSession else q

/-- R41, R42: an accepted inlet increment through attribution, the session's traction energy and, for a
session that was in ENDING before the sample, the tail. -/
def Part.acceptInlet (p : Part) (n : Nat) : Part :=
  let q := (p.attribute n).addTraction (p.sharesOf n).traction
  if p.session.state = .ending then q.takeTail n else q

/-- R88: the readings of a used INLET sample, judged in CONNECTING..SUSPENDED; R92: plug NONE in ENDING. -/
def Part.judgeInlet (p : Part) (r : InletReadings) : Part :=
  if p.session.state.connected then
    if !r.plugPresent then p.terminate .unplug
    else if p.session.kindActual != some r.kind then p.terminate .wrongInlet
    else if !r.ready then p.terminate .inletStop
    else p
  else if !r.plugPresent then p.cutTail
  else p

/-- R84: a used INLET sample stops the INLET_STALE grace, its readings are judged (R88), and INLET_STALE
is removed from a session that goes on (log 34). -/
def Part.inletReturns (p : Part) (r : InletReadings) : Part :=
  let q := p.modSession fun s => { s with inletGrace := none }
  (q.judgeInlet r).removeCause .inletStale

/-- R84: the INLET entry goes STALE. -/
def Part.inletLost (p : Part) : Part :=
  if p.session.state.connected then
    (p.addCause .inletStale).modSession fun s => { s with inletGrace := some p.now }
  else p.cutTail

/-- R85: the monitor has entered UNKNOWN. -/
def Part.monitorLost (p : Part) : Part :=
  if p.session.state.connected then
    (p.addCause .insulationUnknown).modSession fun s => { s with unknownGrace := some p.now }
  else p

/-- R85: the monitor has left UNKNOWN for SETTLING. -/
def Part.monitorBack (p : Part) : Part :=
  (p.modSession fun s => { s with unknownGrace := none }).removeCause .insulationUnknown

/-- R90: a trip, reported in the trip event: a running session terminates, a session in ENDING has its
tail cut. -/
def Part.sessionTrip (p : Part) : Part :=
  if p.session.state.running then p.terminate .insulation else p.cutTail

end Sys2Proof.Machine
end

