-- ==== Sys2Proof/Machine/Heat.lean ====
section
/-! DEFINITION. The Heating Controller's operations (06): sources and demand, the wait list, bursts and
their endings, heat-on drives and feedback, and the departure list. -/

namespace Sys2Proof.Machine

/-! ## Sources and targets (R100) -/

/-- The zone record of a zone in the HEAT table in force. -/
def Part.zoneRecord (p : Part) (z : Zone) : Option ZoneRecord :=
  p.heat.table.map (fun t => t.table.zones.get z)

/-- A target that may be absent, read as the zone's default target. -/
def Part.targetOr (p : Part) (z : Zone) (t : Option Int) : Option Int :=
  match t with
  | some x => some x
  | none => (p.zoneRecord z).map (fun r => r.target)

/-- The higher of two targets that may be absent. -/
def higher : Option Int → Option Int → Option Int
  | none, b => b
  | some a, none => some a
  | some a, some b => some (max a b)

/-- The departure source's target for a zone: the highest target of the active windows. -/
def Part.departureTarget (p : Part) (z : Zone) : Option Int :=
  p.heat.departures.foldl (fun t d => if d.active then higher t (p.targetOr z d.target) else t) none

/-- The manual source's target for a zone. -/
def Part.manualTarget (p : Part) (z : Zone) : Option Int :=
  match p.heat.manual with
  | none => none
  | some m => if m.mask.get z then p.targetOr z m.target else none

/-- R100: the effective target of a zone. -/
def Part.targetNow (p : Part) (z : Zone) : Option Int :=
  higher (higher p.heat.preheat (p.departureTarget z)) (p.manualTarget z)

/-- A departure window is active. -/
def Part.windowActive (p : Part) : Bool := p.heat.departures.any (fun d => d.active)

/-! ## Demand (R101) and its moves (R103) -/

/-- The monitor states in which no demand arises. -/
def MonitorState.holdsDemand : MonitorState → Bool
  | .tripped | .unknown | .faulty | .checking => true
  | _ => false

/-- R101: the demand flag of a zone as an evaluation leaves it. -/
def Part.demandNow (p : Part) (z : Zone) : Bool :=
  let c := p.zone z
  match p.livePack, c.effectiveTarget, p.zoneRecord z with
  | some r, some target, some rec =>
    let t := r.temps.get z
    if p.inRun && c.state != .quarantined && p.live .heater && !p.monitor.state.holdsDemand
        && !p.locator.active && decide (t.high < rec.ceiling) then
      if t.low < target - rec.hysteresis then true
      else if target ≤ t.low then false
      else c.demand
    else false
  | _, _, _ => false

/-- R102: a zone enters WAITING and joins the wait list at the tail. -/
def Part.enterWaiting (p : Part) (z : Zone) : Part :=
  (p.modZone z fun c => { c with state := .waiting, endTime := none })
    |>.modHeat fun h => { h with waitList := h.waitList ++ [z] }

/-- A waiting zone leaves the wait list and goes to OFF. -/
def Part.leaveWaiting (p : Part) (z : Zone) : Part :=
  (p.modZone z fun c => { c with state := .off })
    |>.modHeat fun h => { h with waitList := h.waitList.erase z }

/-- R103: a zone's demand flag takes a value, and the zone moves. -/
def Part.setDemand (p : Part) (z : Zone) (flag : Bool) : Part :=
  let q := p.modZone z fun c => { c with demand := flag }
  match (p.zone z).state, flag with
  | .off, true => q.enterWaiting z
  | .waiting, false => q.leaveWaiting z
  | _, _ => q

/-- R101, R102: demand evaluated for every zone, in ascending zone number. -/
def Part.evalDemand (p : Part) : Part :=
  (((p.setDemand .z1 (p.demandNow .z1)).setDemand .z2 (p.demandNow .z2)).setDemand .z3
    (p.demandNow .z3)).setDemand .z4 (p.demandNow .z4)

/-- An event that evaluates demand was met: the evaluation follows at the end of the event (log 11). -/
def Part.demandDue (p : Part) : Part := p.modHeat fun h => { h with demandDue := true }

/-! ## Heat-on drives (R113) -/

/-- A HEAT_SET carrying the heat-on commanded of the four zones is queued. -/
def Part.queueHeatSet (p : Part) : Part := p.queueDrive (.heatSet (p.heat.zones.map (fun c => c.heatOn)))

/-! ## Bursts (R104 to R107) -/

/-- The number of zones in BURST. -/
def Part.burstCount (p : Part) : Nat := p.heat.burstOrder.length

/-- One more zone may be in BURST under a concurrency mode. -/
def ConcurrencyMode.allows (m : ConcurrencyMode) (count : Nat) : Bool :=
  match m with
  | .all => true
  | .pair => decide (count < 2)
  | .single => decide (count < 1)

/-- R104: a zone enters BURST. -/
def Part.startBurst (p : Part) (t : HeatTable) (z : Zone) : Part :=
  let r := t.zones.get z
  let q := p.modZone z fun c => { c with
    state := .burst
    elementPower := some r.power
    extensions := 0
    endTime := some (p.now + 1000 * t.burstSeconds r)
    heatOn := true
    change := some ⟨true, p.now + switchDeadline⟩ }
  let q := q.modHeat fun h => { h with waitList := h.waitList.erase z, burstOrder := h.burstOrder ++ [z] }
  (q.queueHeatSet).raise (.heatZone z .start)

/-- R104: the waiting zones, oldest first, enter BURST until one is not granted or the limit is reached. -/
def Part.enterFrom (t : HeatTable) : List Zone → Part → Part
  | [], p => p
  | z :: rest, p =>
    if p.budget.granted.contains z && t.mode.allows p.burstCount then
      Part.enterFrom t rest (p.startBurst t z)
    else p

/-- R104: the hand-over of grants, as the Heating Controller takes it. -/
def Part.enterBursts (p : Part) : Part :=
  match p.heat.table with
  | none => p
  | some t => Part.enterFrom t.table p.heat.waitList p

/-- R107: whether an ending leads to REST (else OFF). -/
def Ending.rests : Ending → Bool
  | .expired | .hot | .cut | .stopped | .stale => true
  | .shed | .tripped | .unmonitored | .reset => false

/-- R107: the state a zone enters at an ending. -/
def Part.stateAfter (p : Part) (z : Zone) (e : Ending) : ZoneState :=
  if (p.branch z.branch).quarantine then .quarantined else if e.rests then .rest else .off

/-- The rest of a zone in the HEAT table in force, in ms. -/
def Part.restMs (p : Part) (z : Zone) : Nat :=
  match p.zoneRecord z with
  | none => 0
  | some r => 1000 * r.rest

/-- R107: the burst of a zone ends; a zone not in BURST is left alone. -/
def Part.endBurst (p : Part) (e : Ending) (z : Zone) : Part :=
  if (p.zone z).state = .burst then
    let st := p.stateAfter z e
    let q := p.modZone z fun c => { c with
      state := st
      elementPower := none
      extensions := 0
      endTime := if st = .rest then some (p.now + p.restMs z) else none
      lastEnding := some e
      heatOn := false
      change := some ⟨false, p.now + switchDeadline⟩ }
    let q := q.modHeat fun h => { h with burstOrder := h.burstOrder.erase z }
    (q.queueHeatSet).raise (.heatZone z (.ended e st))
  else p

/-- Several bursts end with one ending, in the order given. -/
def Part.endBurstsOf (e : Ending) : List Zone → Part → Part
  | [], p => p
  | z :: rest, p => Part.endBurstsOf e rest (p.endBurst e z)

/-- Every burst ends with one ending, in burst order. -/
def Part.endBursts (p : Part) (e : Ending) : Part := Part.endBurstsOf e p.heat.burstOrder p

/-- Every demand flag is cleared and waiting zones go to OFF (R110). -/
def Part.clearDemand (p : Part) : Part :=
  (p.modZones fun c => { c with demand := false, state := if c.state = .waiting then .off else c.state })
    |>.modHeat fun h => { h with waitList := [] }

/-- R104, R106: the burst limit leaves room for a burst that ends now to go on: ALL has no limit; in PAIR
and SINGLE either nothing waits or the count, this zone included, is below the limit. -/
def Part.turnAllows (p : Part) (t : HeatTable) : Bool :=
  t.mode == .all || p.heat.waitList.isEmpty || t.mode.allows p.burstCount

/-- R106: the conditions of an extension. -/
def Part.extends (p : Part) (t : HeatTable) (z : Zone) : Bool :=
  (p.zone z).demand && p.budget.granted.contains z
    && decide ((p.zone z).extensions < (t.zones.get z).maxExtensions) && p.turnAllows t

/-- R106: a burst is extended. The new burst runs from now (log 31). -/
def Part.extendBurst (p : Part) (t : HeatTable) (z : Zone) : Part :=
  let r := t.zones.get z
  let n := (p.zone z).extensions + 1
  (p.modZone z fun c => { c with
      extensions := n, endTime := some (p.now + 1000 * t.burstSeconds r), elementPower := some r.power })
    |>.raise (.heatZone z (.extended n))

/-- R108: the zones in BURST whose maximum is at or above the ceiling, in burst order. -/
def Part.hotZones (p : Part) : List Zone :=
  match p.nodes.pack with
  | none => []
  | some r => p.heat.burstOrder.filter fun z =>
      match p.zoneRecord z with
      | none => false
      | some rec => decide (rec.ceiling ≤ (r.temps.get z).high)

/-- The bursts that a lowered burst limit leaves no room for, newest first (R99). -/
def Part.overLimit (p : Part) (m : ConcurrencyMode) : List Zone :=
  match m with
  | .all => []
  | .pair => (p.heat.burstOrder.drop 2).reverse
  | .single => (p.heat.burstOrder.drop 1).reverse

/-! ## Quarantine of a zone (R112) -/

/-- R112: the quarantine flag of a zone's branch is set. -/
def Part.quarantineZone (p : Part) (z : Zone) : Part :=
  let q := p.endBurst .shed z
  let q := q.modZone z fun c => { c with state := .quarantined, demand := false, endTime := none }
  let q := q.modHeat fun h => { h with waitList := h.waitList.erase z }
  (q.raise (.heatZone z .quarantine)).demandDue

/-- R112: the quarantine flag of a zone's branch is cleared. -/
def Part.restoreZone (p : Part) (z : Zone) : Part :=
  ((p.modZone z fun c => { c with state := .off }).raise (.heatZone z .restore)).demandDue

/-! ## Heat-on feedback (R113) -/

/-- R113: one zone takes its heat-on reading. -/
def Part.takeHeatOn (p : Part) (z : Zone) (reading : Bool) : Part :=
  let c := p.zone z
  if reading = c.heatOn then
    p.modZone z fun c => { c with feedback := some reading, change := none, mismatch := false }
  else
    let q := p.modZone z fun c => { c with feedback := some reading }
    if c.change.isNone && !c.mismatch then
      (q.modZone z fun c => { c with mismatch := true }).raise
        (.heatZone z (.mismatch c.heatOn (some reading)))
    else q

/-- R113: the four heat-on readings of a used HEATER sample. -/
def Part.takeHeatOns (p : Part) (r : PerZone Bool) : Part :=
  (((p.takeHeatOn .z1 r.z1).takeHeatOn .z2 r.z2).takeHeatOn .z3 r.z3).takeHeatOn .z4 r.z4

/-- R113: a heat pending change fails at its deadline. That HEAT_ZONE then carries the commanded state and the last
feedback, none when absent, is the model's choice (log 47). -/
def Part.failHeatChange (p : Part) (z : Zone) : Part :=
  let c := p.zone z
  (p.modZone z fun c => { c with change := none, mismatch := true }).raise
    (.heatZone z (.mismatch c.heatOn c.feedback))

/-! ## The manual source (R114, R115) -/

/-- R115: an accepted HEATER increment is counted against the manual source. At 0 the source ends, and
each burst that no other source covers ends with STOPPED: the preheat and departure sources cover every
zone, so either of them covers all. -/
def Part.chargeManual (p : Part) (n : Nat) : Part :=
  match p.heat.manual with
  | none => p
  | some m =>
    if n < m.remaining then p.modHeat fun h => { h with manual := some { m with remaining := m.remaining - n } }
    else
      let q := (p.modHeat fun h => { h with manual := none }).demandDue
      if p.heat.preheat.isSome || p.windowActive then q else q.endBursts .stopped

/-- The manual source ends. Demand is evaluated when one was running (R101: an event in which no source ends
evaluates none). -/
def Part.endManual (p : Part) : Part :=
  p.modHeat fun h => { h with manual := none, demandDue := h.demandDue || h.manual.isSome }

/-! ## Departures (R117 to R121) -/

/-- R117: the lead in force, absent with no HEAT table in force. -/
def Part.leadInForce (p : Part) : Option Nat :=
  p.heat.table.map fun t =>
    match p.livePack with
    | none => t.table.largestLead
    | some r => t.table.leadAt r.coldest

/-- R117: windows evaluated; with no HEAT table in force none becomes active. -/
def Part.evalWindows (p : Part) : Part :=
  match p.leadInForce with
  | none => p
  | some lead =>
    p.modHeat fun h => { h with
      departures := h.departures.map fun d => { d with active := d.active || decide (d.minutesToGo ≤ lead) } }

/-- An entry put in its place by minutes to go (R117). -/
def insertDeparture (d : Departure) : List Departure → List Departure
  | [] => [d]
  | e :: rest => if d.minutesToGo < e.minutesToGo then d :: e :: rest else e :: insertDeparture d rest

/-- Entries ordered by minutes to go. -/
def orderDepartures (ds : List Departure) : List Departure := ds.foldr insertDeparture []

/-- R119, R120: minutes from a minute of the week to a departure minute, 0 read as 10,080. -/
def minutesUntil (departure minute : Nat) : Nat :=
  let d := (departure + 10080 - minute) % 10080
  if d = 0 then 10080 else d

/-- The coldest zone minimum as DEPARTURE_DONE carries it: none when the PACK entry holds no reading. -/
def Part.coldestReading (p : Part) : Option Int := p.nodes.pack.map PackReadings.coldest

/-- DEPARTURE_DONE for an entry. -/
def Part.raiseDeparture (p : Part) (reason : DepartureReason) (d : Departure) : Part :=
  p.raise (.departureDone d.minute d.target d.weekly reason p.coldestReading)

/-- DEPARTURE_DONE for entries in list order. -/
def Part.raiseDepartures (reason : DepartureReason) : List Departure → Part → Part
  | [], p => p
  | d :: rest, p => Part.raiseDepartures reason rest (p.raiseDeparture reason d)

/-- R118: the minutes to go of every entry fall by one; an entry that reaches 0 is reached: DEPARTURE_DONE
is raised, a weekly entry goes to the tail with 10,080 minutes to go, any other is removed. -/
def Part.countDownDepartures (p : Part) : Part :=
  let counted := p.heat.departures.map fun d => { d with minutesToGo := d.minutesToGo - 1 }
  let reached := counted.filter (fun d => d.minutesToGo == 0)
  let waiting := counted.filter (fun d => d.minutesToGo != 0)
  let again := (reached.filter (fun d => d.weekly)).map fun d =>
    { d with minutesToGo := 10080, active := false }
  (Part.raiseDepartures .reached reached p).modHeat fun h => { h with departures := waiting ++ again }

/-- R119: the forward distance of a SET_CLOCK in minutes. -/
def forwardDistance (old new : Clock) : Int :=
  ((new.week : Int) - old.week) * 10080 + ((new.minute : Int) - old.minute)

/-- R119: the entries moved to a new time: those passed are raised, and removed unless weekly; the rest
are counted afresh with their windows closed, and reordered. -/
def Part.moveDepartures (p : Part) (old new : Clock) : Part :=
  let dist := forwardDistance old new
  let passed := p.heat.departures.filter fun d => decide ((d.minutesToGo : Int) ≤ dist)
  let kept := p.heat.departures.filter fun d => d.weekly || decide (dist < (d.minutesToGo : Int))
  let moved := kept.map fun d => { d with minutesToGo := minutesUntil d.minute new.minute, active := false }
  (Part.raiseDepartures .passed passed p).modHeat fun h => { h with departures := orderDepartures moved }

end Sys2Proof.Machine
end

