-- ==== Sys2Proof/Machine/Budgeting.lean ====
section
/-! DEFINITION. The Budget Arbiter's figures and recompute (04). -/

namespace Sys2Proof.Machine

/-! ## Available power, SOC side and reservation (R56, R57, R60) -/

/-- R56: the AC available power of an offer: floor of I × P × V × efficiency ÷ 100,000, less the margin,
not below 0. -/
def acAvailable (t : BudgetTable) (r : InletReadings) : Nat :=
  r.phaseCurrent * r.phases * r.lineVoltage * t.efficiency / 100000 - t.margin

/-- R57: the SOC side is above: PACK LIVE with a reading at or above the floor. -/
def Part.socAboveNow (p : Part) : Bool :=
  match p.budget.table, p.livePack with
  | some t, some r => decide (t.table.socFloor ≤ r.soc)
  | _, _ => false

/-- R56, R57: the available power on a source. -/
def Part.availableOn (p : Part) (source : Source) : Nat :=
  match p.budget.table with
  | none => 0
  | some t =>
    match source with
    | .none => 0
    | .pack => if p.socAboveNow then t.table.packHeatAllowance else 0
    | .ac =>
      match p.liveInlet with
      | none => 0
      | some r => acAvailable t.table r
    | .dc =>
      match p.liveInlet with
      | none => 0
      | some r => r.dcOffer - t.table.margin

/-- The largest reading of the cargo window, 0 when empty. -/
def largest (ns : List Nat) : Nat := ns.foldl max 0

/-- R60: the cargo reservation on a source. -/
def Part.reservationOn (p : Part) (source : Source) : Nat :=
  match source, p.budget.table with
  | .ac, some t => largest p.budget.window + t.table.cargoMargin
  | .dc, some t => largest p.budget.window + t.table.cargoMargin
  | _, _ => 0

/-- R59: a used CARGO sample's reading joins the window; the oldest of four leaves. -/
def joinWindow (w : List Nat) (n : Nat) : List Nat := if w.length < 4 then w ++ [n] else w.drop 1 ++ [n]

/-- Free power: available power less the cargo reservation, not less than 0. -/
def Budget.free (b : Budget) : Nat := b.available - b.reservation

/-! ## Requests (R61) -/

/-- R61: a zone in BURST with the element power its burst runs at. -/
def Part.burstingAsk (p : Part) (z : Zone) : HeatAsk := ⟨z, (p.zone z).elementPower.getD 0, true⟩

/-- R61: a zone in WAITING with the element power of the HEAT table in force. -/
def Part.waitingAsk (p : Part) (z : Zone) : HeatAsk :=
  ⟨z, (p.zoneRecord z).elim 0 (fun r => r.power), false⟩

/-- R61: the heat request: bursting zones by burst order, then waiting zones in wait-list order. -/
def Part.heatAsk (p : Part) : List HeatAsk :=
  p.heat.burstOrder.map p.burstingAsk ++ p.heat.waitList.map p.waitingAsk

/-! ## Grants (R63, R64) -/

/-- The leading asks that fit in a power, granting stops at the first that does not (4.5). -/
def grantHeat : List HeatAsk → Nat → List HeatAsk
  | [], _ => []
  | a :: rest, f => if a.power ≤ f then a :: grantHeat rest (f - a.power) else []

/-- The sum of the powers of asks. -/
def askedPower (as : List HeatAsk) : Nat := (as.map (fun a => a.power)).sum

/-- The grants of a recompute. -/
structure Grants where
  asks : List HeatAsk
  heat : Nat
  charge : Nat
  deriving DecidableEq, Repr

/-- R63: HEAT_FIRST. -/
def grantHeatFirst (asks : List HeatAsk) (charge free : Nat) : Grants :=
  let g := grantHeat asks free
  ⟨g, askedPower g, min charge (free - askedPower g)⟩

/-- R64: CHARGE_FIRST. -/
def grantChargeFirst (asks : List HeatAsk) (charge floor free : Nat) : Grants :=
  let first := min (min charge floor) free
  let g := grantHeat asks (free - first)
  let rest := free - first - askedPower g
  ⟨g, askedPower g, first + min (charge - first) rest⟩

/-- R63, R64, R67: the grants of a request under a table; none while the freeze is set, nor with no table
in force (no source but NONE is possible then). -/
def Part.grantsFor (p : Part) (asks : List HeatAsk) (charge : Nat) : Grants :=
  match p.budget.freeze, p.budget.table with
  | false, some t =>
    match t.table.orderMode with
    | .heatFirst => grantHeatFirst asks charge p.budget.free
    | .chargeFirst => grantChargeFirst asks charge t.table.chargeFloor p.budget.free
  | _, _ => ⟨[], 0, 0⟩

/-! ## Recompute (R62, R65, R66) -/

/-- The zones in BURST that a grant did not reach, newest first (R65). -/
def Part.cutZones (p : Part) (g : Grants) : List Zone :=
  (p.heat.burstOrder.filter fun z => !(g.asks.any (fun a => a.zone == z))).reverse

/-- R65: the bursts a recompute cuts. Neither a change of source to NONE nor a locate start cuts any. -/
def Part.cutBursts (p : Part) : Part :=
  if p.budget.freeze || p.budget.source == .none then p
  else Part.endBurstsOf .cut (p.cutZones (p.grantsFor p.heatAsk p.chargeAsk)) p

/-- The grant table, requests and basis set from the requests as they stand. -/
def Part.setGrants (p : Part) : Part :=
  let g := p.grantsFor p.heatAsk p.chargeAsk
  p.modBudget fun b => { b with
    heatRequest := p.heatAsk
    chargeRequest := p.chargeAsk
    heatGrant := g.heat
    granted := g.asks.map (fun a => a.zone)
    chargeGrant := g.charge
    basisAvailable := b.available
    basisReservation := b.reservation
    recomputeDue := false }

/-- R62, R65: a recompute of grants: bursts without a grant are cut and the grant is made again. -/
def Part.recompute (p : Part) : Part := p.cutBursts.setGrants

/-- R62, R66, R104: a recompute, its hand-over, and the further recompute that the entry of zones into
BURST causes. -/
def Part.recomputeAndHandOver (p : Part) : Part :=
  let q := p.recompute.enterBursts
  if q.heatAsk = q.budget.heatRequest then q else q.recompute

/-! ## Causes of recompute (R62) -/

/-- A value differs from a basis by at least the hysteresis of the BUDGET table in force. -/
def Part.movedBy (p : Part) (value basis : Nat) : Bool :=
  match p.budget.table with
  | none => false
  | some t => decide (t.table.hysteresis ≤ (value - basis) + (basis - value))

/-- R62: a cause of recompute is met, comparing the figures before the event's settling with those after. -/
def Part.recomputeCaused (p : Part) (old : Budget) : Bool :=
  let b := p.budget
  b.recomputeDue || b.source != old.source || b.socAbove != old.socAbove
    || (b.available != old.available && p.movedBy b.available b.basisAvailable)
    || (b.reservation != old.reservation && p.movedBy b.reservation b.basisReservation)
    || decide (b.free < b.heatGrant + b.chargeGrant)
    || decide (p.heatAsk ≠ b.heatRequest) || b.chargeRequest != p.chargeAsk

/-- R55 to R57, R60: the source and the figures that follow from it. -/
def Part.setFigures (p : Part) : Part :=
  let source := p.sourceNow
  p.modBudget fun b => { b with
    source := source
    socAbove := p.socAboveNow
    available := p.availableOn source
    reservation := p.reservationOn source }

/-- R68: the overdrawn condition. -/
def Budget.overdrawnNow (b : Budget) : Bool :=
  (b.source == .ac || b.source == .dc) && decide (b.available ≤ b.reservation)

/-- R68: the overdrawn latch follows the condition; BUDGET_OVERDRAWN is raised as it comes to hold. -/
def Part.checkOverdrawn (p : Part) : Part :=
  let b := p.budget
  let q := p.modBudget fun b => { b with overdrawn := b.overdrawnNow }
  if b.overdrawnNow && !b.overdrawn then q.raise (.budgetOverdrawn b.source b.available b.reservation) else q

/-- The Budget Arbiter at the end of an event. -/
def Part.settleBudget (p : Part) : Part :=
  let q := p.setFigures.checkOverdrawn
  if q.recomputeCaused p.budget then q.recomputeAndHandOver else q

end Sys2Proof.Machine
end

