-- ==== Sys2Proof/Machine/Locating.lean ====
section
/-! DEFINITION. The Branch Locator's operations (08): the procedure's start, steps, verdicts, abandonment
and end, and the fault list. -/

namespace Sys2Proof.Machine

/-- The shed list of the INSULATION table in force. -/
def Part.shedList (p : Part) : List Branch :=
  match p.monitor.table with
  | none => []
  | some t => t.table.shedList

/-- The branch under test. -/
def Part.testedBranch (p : Part) : Option Branch := p.shedList[p.locator.cursor]?

/-- A procedure is active and tests a branch. -/
def Part.tests (p : Part) (b : Branch) : Bool := p.locator.active && p.testedBranch == some b

/-- The number of the OPEN record, or 0. -/
def Part.openNumber (p : Part) : Nat :=
  match p.store.opened with
  | none => 0
  | some r => r.number

/-- R22: the Locator requests a branch's shed flag set or clear. -/
def Part.setShed (p : Part) (b : Branch) (on : Bool) : Part := p.modBranch b fun e => { e with shed := on }

/-- A recompute is due at the end of the event (R62, log 11). -/
def Part.recomputeDue (p : Part) : Part := p.modBudget fun b => { b with recomputeDue := true }

/-- The step result of the entry at a cursor is recorded. -/
def Part.stepResult (p : Part) (cursor : Nat) (r : StepResult) : Part :=
  p.modLocator fun l => { l with results := l.results.set cursor r }

/-! ## The fault list (R154) -/

/-- The first entry that is not live removed. -/
def dropOldestDead : List FaultEntry → List FaultEntry
  | [] => []
  | e :: rest => if e.live then e :: dropOldestDead rest else rest

/-- R154: an entry joins at the tail; with 12 entries the oldest that is not live leaves first. -/
def addFault (fs : List FaultEntry) (e : FaultEntry) : List FaultEntry :=
  (if fs.length < 12 then fs else dropOldestDead fs) ++ [e]

/-! ## End of a procedure (R153) -/

/-- R153: a procedure ends: the freeze clears with a recompute, LOCATE_RESULT is raised, LOCATE is removed,
and demand is evaluated. -/
def Part.endProcedure (p : Part) (how : LocateEnd) : Part :=
  let l := p.locator
  let q := p.modLocator fun l => { l with active := false }
  let q := q.modBudget fun b => { b with freeze := false, recomputeDue := true }
  let q := q.raise (.locateResult how l.before l.last l.results l.recordNumber)
  (q.removeCause .locate).demandDue

/-- R151: the verdict BUS. -/
def Part.verdictBus (p : Part) : Part :=
  let entry : FaultEntry := ⟨none, .bus, p.locator.before, p.locator.last, p.meter.clock,
    p.locator.recordNumber, false⟩
  (p.modLocator fun l => { l with
      faults := addFault l.faults entry
      inert := l.inert || p.monitor.state == .warning })
    |>.endProcedure .bus

/-- R59, R90, R112: the owner of a branch whose quarantine flag has been set applies it. -/
def Part.applyQuarantine (p : Part) (b : Branch) : Part :=
  match b.zone with
  | some z => p.quarantineZone z
  | none =>
    if b = .cargo then p.modBudget fun u => { u with window := [] }
    else if p.ownsInlet b then p.terminate .quarantined
    else p

/-- R150: the verdict QUARANTINED on the branch under test, at a sample's estimate. -/
def Part.verdictQuarantined (p : Part) (b : Branch) (estimate : Nat) : Part :=
  let entry : FaultEntry := ⟨some b, .quarantined, p.locator.before, estimate, p.meter.clock,
    p.locator.recordNumber, true⟩
  let q := p.stepResult p.locator.cursor .culprit
  let q := q.modBranch b fun e => { e with quarantine := true, shed := false }
  let q := q.modLocator fun l => { l with faults := addFault l.faults entry }
  (q.applyQuarantine b).endProcedure (.quarantined b)

/-! ## Steps (R146 to R149) -/

/-- R146: the step at a cursor begins; the list is the shed list from that cursor on. A quarantined branch,
or one not commanded CLOSED, is SKIPPED; past the last entry the verdict is BUS. -/
def Part.beginStep : List Branch → Nat → Part → Part
  | [], _, p => p.verdictBus
  | b :: rest, cursor, p =>
    let q := p.modLocator fun l => { l with cursor := cursor }
    if (p.branch b).quarantine || !p.shouldClose b then
      Part.beginStep rest (cursor + 1) (q.stepResult cursor .skipped)
    else
      (q.modLocator fun l => { l with phase := .shedding, sampleCount := 0 }).setShed b true

/-- The cursor advances and the next step begins. -/
def Part.advanceStep (p : Part) : Part :=
  let next := p.locator.cursor + 1
  Part.beginStep (p.shedList.drop next) next p

/-- R145: the procedure starts at a handed sample. -/
def Part.startProcedure (p : Part) (estimate : Nat) : Part :=
  let q := p.modLocator fun l => { l with
    latch := false
    active := true
    cursor := 0
    phase := .shedding
    sampleCount := 0
    results := List.replicate 7 .notReached
    before := estimate
    last := estimate
    recordNumber := p.openNumber }
  let q := q.addCause .locate
  let q := (q.endBursts .shed).clearDemand
  let q := q.modBudget fun b => { b with freeze := true, recomputeDue := true }
  Part.beginStep q.shedList 0 q

/-- R147, R148: the step's branch was not isolated. The session's own inlet branch is left to the
termination that its failure brings. -/
def Part.notIsolated (p : Part) (b : Branch) : Part :=
  let q := p.stepResult p.locator.cursor .notIsolated
  if p.ownsInlet b then q else (q.setShed b false).advanceStep

/-- R147, R149: a pending change of a branch to a state was confirmed. A step in SHEDDING waits for the change
of its branch to OPEN, one in RESTORING for the change to CLOSED; no other change is the step's own. -/
def Part.locateConfirmed (p : Part) (b : Branch) (closed : Bool) : Part :=
  if p.tests b then
    match p.locator.phase, closed with
    | .shedding, false => p.modLocator fun l => { l with phase := .settling, sampleCount := 0 }
    | .restoring, true => p.advanceStep
    | _, _ => p
  else p

/-- R147, R149: a pending change of a branch to a state failed; which change is the step's own is as for a
confirmation. A failed restore advances the cursor whatever the branch. A session that owns the branch is terminated
before the advance, the model's choice (log 28); the context change that follows abandons the procedure unless the
advance has ended it. -/
def Part.locateFailed (p : Part) (b : Branch) (closed : Bool) : Part :=
  if p.tests b then
    match p.locator.phase, closed with
    | .shedding, false => p.notIsolated b
    | .restoring, true => (p.reportContactor b).advanceStep
    | _, _ => p
  else p

/-- R148: the branch under test has moved uncommanded. -/
def Part.locateMoved (p : Part) (b : Branch) : Part :=
  if p.tests b then
    match p.locator.phase with
    | .settling | .confirming => p.notIsolated b
    | _ => p
  else p

/-- R148, R149: the step ends FAULT_REMAINS and its branch is restored; with no pending change to come the
next step begins at once. -/
def Part.restoreTested (p : Part) (b : Branch) : Part :=
  let q := p.stepResult p.locator.cursor .faultRemains
  let q := (q.modLocator fun l => { l with phase := .restoring, sampleCount := 0 }).setShed b false
  if q.shouldClose b then q else q.advanceStep

/-- R148: a counted sample handed to an active procedure, judged against the recover limit of the context
in force. -/
def Part.stepSample (p : Part) (t : InsulationTable) (estimate : Nat) : Part :=
  let q := p.modLocator fun l => { l with last := estimate }
  match p.testedBranch, p.locator.phase with
  | some _, .settling =>
    let n := p.locator.sampleCount + 1
    if t.locateSettle ≤ n then q.modLocator fun l => { l with phase := .confirming, sampleCount := 0 }
    else q.modLocator fun l => { l with sampleCount := n }
  | some b, .confirming =>
    if (t.record p.monitor.context).recover ≤ estimate then
      let n := p.locator.sampleCount + 1
      let q := q.modLocator fun l => { l with sampleCount := n }
      if t.locateConfirm ≤ n then q.verdictQuarantined b estimate else q
    else q.restoreTested b
  | _, _ => q

/-- R145, R148: a counted sample is handed to the Locator. `latchBefore` is the pending latch as it stood
before the event. -/
def Part.handToLocator (p : Part) (t : InsulationTable) (estimate : Nat) (latchBefore : Bool) : Part :=
  if p.locator.active then p.stepSample t estimate
  else if latchBefore then p.startProcedure estimate
  else p

/-! ## Abandonment (R152) and the latch (R143, R144) -/

/-- R152: what an abandonment does to the pending latch. -/
def AbandonReason.latches : AbandonReason → Bool
  | .context | .unknown => true
  | .trip | .reset => false

/-- The shed flag of the branch under test requested clear. -/
def Part.clearTestedShed (p : Part) : Part :=
  match p.testedBranch with
  | none => p
  | some b => p.setShed b false

/-- R152: an active procedure is abandoned. -/
def Part.abandon (p : Part) (reason : AbandonReason) : Part :=
  if p.locator.active then
    ((p.clearTestedShed).modLocator fun l => { l with latch := reason.latches }).endProcedure
      (.abandoned reason)
  else p

/-- R144: an auto-locate request. -/
def Part.autoLocate (p : Part) : Part :=
  if !p.locator.active && !p.locator.inert then p.modLocator fun l => { l with latch := true } else p

end Sys2Proof.Machine
end

