-- ==== Sys2Proof/Machine/Insulation.lean ====
section
/-! DEFINITION. The Insulation Monitor's operations (07): the injector's mode, changes of state, settling,
judgement of samples, trip, UNKNOWN and self-check. -/

namespace Sys2Proof.Machine

/-! ## The injector's mode (R124) -/

/-- The injector mode of a context (7.2). -/
def Context.mode : Context → InjectorMode
  | .parked | .ac | .dcActive => .active
  | .dcListen => .listen

/-- R124: the commanded injector mode of a state in a context. -/
def commandedMode (st : MonitorState) (c : Context) : InjectorMode :=
  match st with
  | .off => .off
  | .checking => .selfcheck
  | _ => c.mode

/-- R124: an INJECTOR_MODE frame with the commanded mode is queued, with a fresh mode pending change. -/
def Part.queueMode (p : Part) : Part :=
  (p.modMonitor fun m => { m with change := some ⟨m.mode, p.now + switchDeadline⟩ }).queueDrive
    (.injectorMode p.monitor.mode)

/-- R124, R131: the commanded mode follows state and context; a change of it makes the latest settled
reading absent and queues the mode. -/
def Part.syncMode (p : Part) : Part :=
  let mode := commandedMode p.monitor.state p.monitor.context
  if mode = p.monitor.mode then p
  else (p.modMonitor fun m => { m with mode := mode, latest := none }).queueMode

/-! ## Changes of state (R132) -/

/-- R132: the monitor changes state: the mode follows, INSULATION_STATE is raised, demand is evaluated, and
entry into NORMAL clears the inert flag (R144). -/
def Part.enterMonitor (p : Part) (st : MonitorState) (reason : Option UnknownReason) : Part :=
  let left := p.monitor.state
  let q := (p.modMonitor fun m => { m with state := st, reason := reason }).syncMode
  let q := q.raise (.insulationState left st q.monitor.context q.monitor.latest reason)
  let q := if st = .normal then q.modLocator fun l => { l with inert := false } else q
  q.demandDue

/-- The trip, warn and recover counters at 0. -/
def Monitor.countersCleared (m : Monitor) : Monitor := { m with tripCount := 0, warnCount := 0, recoverCount := 0 }

/-- R128: the counts at 0, as entry into SETTLING leaves them. -/
def Monitor.settleCleared (m : Monitor) : Monitor := { m.countersCleared with settleTaken := 0 }

/-- R128: entry into SETTLING. From SETTLING it restarts the count and raises nothing; from UNKNOWN the
Session Controller is told (R136). -/
def Part.enterSettling (p : Part) : Part :=
  let q := p.modMonitor Monitor.settleCleared
  match p.monitor.state with
  | .settling => q
  | .unknown => (q.enterMonitor .settling none).monitorBack
  | _ => q.enterMonitor .settling none

/-- A settle request in SETTLING, NORMAL or WARNING; in other states it changes nothing (R128). -/
def Part.settleRequest (p : Part) : Part :=
  match p.monitor.state with
  | .settling | .normal | .warning => p.enterSettling
  | _ => p

/-- R137: entry into CHECKING. -/
def Part.enterChecking (p : Part) : Part :=
  ((p.modMonitor fun m => { m with checkCount := 0 }).enterMonitor .checking none).endBursts .unmonitored

/-- R136: entry into UNKNOWN, from SETTLING, NORMAL or WARNING. -/
def Part.enterUnknown (p : Part) (reason : UnknownReason) : Part :=
  let q := p.modMonitor fun m => { m.settleCleared with latest := if reason = .stale then none else m.latest }
  let q := (q.enterMonitor .unknown (some reason)).queueMode
  let q := (q.monitorLost).endBursts .unmonitored
  q.abandon .unknown

/-! ## The trip (R133) -/

/-- R133: the monitor trips at a reading. The branches, the context and the source follow at the end of the
event (R21, R126, R55). INSULATION_STATE and TRIP_CHANGE carry the context and the latest reading from before that
change, which is the model's choice (log 52). -/
def Part.trip (p : Part) (reading threshold : Nat) : Part :=
  let context := p.monitor.context
  let q := p.modMonitor fun m => { m.countersCleared with tripLatch := true }
  let q := (q.enterMonitor .tripped none).raise (.tripChange true context reading (some threshold))
  let q := (q.sessionTrip).endBursts .tripped
  (q.abandon .trip).modLocator fun l => { l with latch := false }

/-! ## Self-check (R137) -/

/-- The end of a self-check: SELF_CHECK_RESULT, then the change of state. -/
def Part.endSelfCheck (p : Part) (t : InsulationTable) (failure : Option CheckFailure)
    (reading : Option Nat) : Part :=
  let q := p.raise (.selfCheckResult failure p.monitor.checkCount reading t.acceptBand.1 t.acceptBand.2)
  match failure with
  | none => q.enterSettling
  | some _ => (q.enterMonitor .faulty none).endBursts .unmonitored

/-- R137: a counted sample in CHECKING. -/
def Part.checkSample (p : Part) (t : InsulationTable) (reading : Nat) : Part :=
  if inRange t.acceptBand.1 t.acceptBand.2 reading then
    let q := p.modMonitor fun m => { m with checkCount := m.checkCount + 1 }
    if t.samples ≤ q.monitor.checkCount then q.endSelfCheck t none none else q
  else p.endSelfCheck t (some .outOfTolerance) (some reading)

/-! ## Judgement (R129 to R131) -/

/-- R131: a settled estimate is the latest settled reading. -/
def Part.setLatest (p : Part) (estimate : Nat) : Part := p.modMonitor fun m => { m with latest := some estimate }

/-- R131: an estimate below the OPEN record's lowest insulation reading replaces it. -/
def Part.lowerRecord (p : Part) (estimate : Nat) : Part :=
  p.modRecord fun r => { r with lowest := min r.lowest estimate }

/-- R129 test 2: the warn counter; in NORMAL it may enter WARNING and ask for auto-locate. -/
def Part.warnTest (p : Part) (t : InsulationTable) (c : ContextRecord) (estimate : Nat) : Part :=
  let n := if estimate < c.warn then p.monitor.warnCount + 1 else 0
  let q := p.modMonitor fun m => { m with warnCount := n }
  if p.monitor.state = .normal && decide (c.confirm ≤ n) then
    let q := q.enterMonitor .warning none
    if t.autoLocate then q.autoLocate else q
  else q

/-- R129 test 3, R130: the recover counter in WARNING. -/
def Part.recoverTest (p : Part) (c : ContextRecord) (estimate : Nat) : Part :=
  if p.monitor.state = .warning then
    let n := if c.recover ≤ estimate then p.monitor.recoverCount + 1 else 0
    if c.confirm ≤ n then
      (p.modMonitor fun m => { m with warnCount := 0, recoverCount := 0 }).enterMonitor .normal none
    else p.modMonitor fun m => { m with recoverCount := n }
  else p

/-- R129: a counted sample judged in NORMAL or WARNING, then handed to the Locator. -/
def Part.judgeSample (p : Part) (t : InsulationTable) (estimate : Nat) (latchBefore : Bool) : Part :=
  let c := t.record p.monitor.context
  let q := (p.lowerRecord estimate).setLatest estimate
  let n := if estimate < c.trip then q.monitor.tripCount + 1 else 0
  let q := q.modMonitor fun m => { m with tripCount := n }
  if c.confirm ≤ n then q.trip estimate c.trip
  else ((q.warnTest t c estimate).recoverTest c estimate).handToLocator t estimate latchBefore

/-- R128: a counted sample in SETTLING; the one that finds the count complete is judged in NORMAL. -/
def Part.settleSample (p : Part) (t : InsulationTable) (estimate : Nat) (latchBefore : Bool) : Part :=
  let q := p.setLatest estimate
  if (t.record p.monitor.context).settle ≤ p.monitor.settleTaken then
    (q.enterMonitor .normal none).judgeSample t estimate latchBefore
  else q.modMonitor fun m => { m with settleTaken := m.settleTaken + 1 }

/-- A counted sample taken as the monitor's state gives (R124). In UNKNOWN with reason MODE it is the
settle request and is not itself counted in the new settling (log 19). -/
def Part.countedSample (p : Part) (t : InsulationTable) (r : InjectorReadings) (latchBefore : Bool) : Part :=
  match p.monitor.state with
  | .off => p
  | .checking => p.checkSample t r.selfCheck
  | .faulty => p.setLatest r.resistance
  | .tripped => p.setLatest r.resistance
  | .settling => p.settleSample t r.resistance latchBefore
  | .normal => p.judgeSample t r.resistance latchBefore
  | .warning => p.judgeSample t r.resistance latchBefore
  | .unknown =>
    let q := p.setLatest r.resistance
    if p.monitor.reason = some .mode then q.enterSettling else q

/-- R124, R136: a used INJECTOR sample. A return from STALE queues the mode again (log 20) and takes the
monitor out of UNKNOWN; an echo of the commanded mode confirms the mode; a settled one is counted. -/
def Part.takeInjector (p : Part) (r : InjectorReadings) (returned : Bool) : Part :=
  let q := if returned then p.queueMode else p
  let q := if r.echo = q.monitor.mode then q.modMonitor fun m => { m with change := none } else q
  let q := if returned && q.monitor.state == .unknown then q.enterSettling else q
  match q.monitor.table with
  | some t => if r.settled && r.echo == q.monitor.mode then q.countedSample t.table r p.locator.latch else q
  | none => q

/-- R136, R131: the INJECTOR entry goes STALE. -/
def Part.injectorLost (p : Part) : Part :=
  match p.monitor.state with
  | .settling | .normal | .warning => p.enterUnknown .stale
  | _ => p.modMonitor fun m => { m with latest := none }

/-- R125: a mode pending change fails at its deadline. -/
def Part.modeFailed (p : Part) : Part :=
  let q := p.modMonitor fun m => { m with change := none }
  match p.monitor.state, p.monitor.table with
  | .settling, _ => q.enterUnknown .mode
  | .normal, _ => q.enterUnknown .mode
  | .warning, _ => q.enterUnknown .mode
  | .checking, some t => q.endSelfCheck t.table (some .mode) none
  | _, _ => q

/-- R126: the context is examined again. A change takes the new context and the mode follows; in SETTLING,
NORMAL and WARNING an active procedure is abandoned and the monitor settles. -/
def Part.examineContext (p : Part) : Part :=
  let c := p.contextNow
  if c = p.monitor.context then p
  else
    let q := (p.modMonitor fun m => { m with context := c }).syncMode
    match p.monitor.state with
    | .settling | .normal | .warning => (q.abandon .context).enterSettling
    | _ => q

/-! ## Start-up, sleep and wake (R140) -/

/-- R140: the monitor leaves OFF: TRIPPED while the latch is set, else CHECKING at RELEASE, or at a wake
the wake state. -/
def Part.startMonitor (p : Part) (wake : WakeState) : Part :=
  if p.monitor.tripLatch then p.enterMonitor .tripped none
  else
    match wake with
    | .checking => p.enterChecking
    | .settling => p.enterSettling

/-- R140: the wake state a monitor state leaves at SLEEP; TRIPPED needs none and keeps the one held. -/
def MonitorState.wakesTo (st : MonitorState) (held : WakeState) : WakeState :=
  match st with
  | .checking | .faulty => .checking
  | .settling | .normal | .warning | .unknown => .settling
  | .tripped | .off => held

/-- R140: the monitor enters OFF at SLEEP. -/
def Part.sleepMonitor (p : Part) : Part :=
  (p.modMonitor fun m => { m.countersCleared with wakeState := m.state.wakesTo m.wakeState }).enterMonitor
    .off none

end Sys2Proof.Machine
end

