-- ==== Sys2Proof/Machine/Settle.lean ====
section
/-! DEFINITION. The end of an event (log 11): what follows in the same event from the inputs it changed:
the plug tests (R76, R77), the context (R126), the commanded states (R21), demand (R101), the budget (R62),
the draw limit (R82) and the clamp drives (R18). -/

namespace Sys2Proof.Machine

/-! ## Order Clamp (R16, R18) -/

/-- R16: the target limit of the CONVERTER. -/
def Part.converterLimit (p : Part) : Nat := min p.session.drawLimit 65535

/-- R16: the target limit of the INLET, in 0.1 A. -/
def Part.inletLimit (p : Part) : Nat :=
  match p.livePack with
  | none => 0
  | some r => if r.voltage = 0 then 0 else min (p.session.drawLimit * 100 / r.voltage) 65535

/-- R18: a target limit below the last forwarded value queues a drive that carries it. -/
def Part.clampConverter (p : Part) : Part :=
  match p.clamp.converter with
  | none => p
  | some last =>
    if p.converterLimit < last then
      (p.modClamp fun c => { c with converter := some p.converterLimit }).queueDrive
        (.setpoint p.converterLimit)
    else p

/-- R18, for the INLET. -/
def Part.clampInlet (p : Part) : Part :=
  match p.clamp.inlet with
  | none => p
  | some last =>
    if p.inletLimit < last then
      (p.modClamp fun c => { c with inlet := some p.inletLimit }).queueDrive (.currentRequest p.inletLimit)
    else p

/-- R82: the draw limit as state, grants and reservation give it. -/
def Part.drawLimitNow (p : Part) : Nat :=
  if p.session.state.drawing then p.budget.chargeGrant + p.budget.heatGrant + p.budget.reservation else 0

/-- R82, R18: the draw limit is set and handed to the Order Clamp. When both target limits fall in one event the
CONVERTER's drive joins the drive queue before the INLET's, which is the model's choice (log 41). -/
def Part.settleDraw (p : Part) : Part :=
  ((p.modSession fun s => { s with drawLimit := p.drawLimitNow }).clampConverter).clampInlet

/-! ## Heating -/

/-- R80: the preheat demand as the session places it. -/
def Part.placePreheat (p : Part) : Part :=
  p.modHeat fun h => { h with
    preheat := if p.session.state = .preheat then p.session.chargeEnable else none }

/-- R100: the effective targets recomputed. -/
def Part.setTargets (p : Part) : Part :=
  p.modHeat fun h => { h with zones :=
    ⟨{ h.zones.z1 with effectiveTarget := p.targetNow .z1 },
      { h.zones.z2 with effectiveTarget := p.targetNow .z2 },
      { h.zones.z3 with effectiveTarget := p.targetNow .z3 },
      { h.zones.z4 with effectiveTarget := p.targetNow .z4 }⟩ }

/-- An effective target differs from what the sources now give. -/
def Part.targetsMove (p : Part) : Bool :=
  allZones.any fun z => decide ((p.zone z).effectiveTarget ≠ p.targetNow z)

/-- R100, R101: the targets are recomputed, and demand is evaluated when one changed or an event that
evaluates it was met. -/
def Part.settleHeat (p : Part) : Part :=
  let q := p.placePreheat
  let due := q.heat.demandDue || q.targetsMove
  let q := q.setTargets.modHeat fun h => { h with demandDue := false }
  if due then q.evalDemand else q

/-! ## The end of an event -/

/-- One round of the tests that may move session and monitor. -/
def Part.round (p : Part) : Part := p.plugWait.examineContext

/-- The end of an event: the rounds (a change of context may end a procedure, and that may resume a
session and end it, which changes the context again; a third round finds nothing left), then what follows
from the states they leave. -/
def Part.finish (p : Part) : Part :=
  p.round.round.round.decideBranches.settleHeat.settleBudget.settleDraw

end Sys2Proof.Machine
end

