-- ==== Sys2Proof/Machine/PartStates.lean ====
section
/-! DEFINITION. Changes of part state (10.1): entry into RUN at RELEASE and at a wake, departure for
DORMANT, and the staleness timers with them (R14). -/

namespace Sys2Proof.Machine

/-- An entry's timer started afresh at a time, when the entry is LIVE. -/
def EntryRuntime.restarted (e : EntryRuntime) (now : Nat) : EntryRuntime :=
  { e with timer := if e.state = .live then some now else none }

/-- R14: every LIVE entry's staleness timer starts afresh. -/
def Part.startTimers (p : Part) : Part :=
  p.modNodes fun n => { n with runtime := n.runtime.map (fun e => e.restarted p.now) }

/-- R14: every running staleness timer stops. -/
def Part.stopTimers (p : Part) : Part :=
  p.modNodes fun n => { n with runtime := n.runtime.map (fun e => { e with timer := none }) }

/-- R173: the part enters RUN at RELEASE. -/
def Part.enterRunAtRelease (p : Part) : Part :=
  let q := p.modMgmt fun m => { m with partState := .run }
  ((q.setPartClaims true).startMonitor .checking).demandDue.recomputeDue

/-- R175: the part wakes to RUN with a reason. -/
def Part.wake (p : Part) (reason : WakeReason) : Part :=
  let q := p.modMgmt fun m => { m with partState := .run, wakeAt := none, wakeReason := reason }
  ((q.setPartClaims true).startTimers.startMonitor p.monitor.wakeState).demandDue

/-- R103: every zone in WAITING or REST goes to OFF, and the wait list empties. -/
def Part.restZones (p : Part) : Part :=
  (p.modZones fun c =>
      if c.state = .waiting ∨ c.state = .rest then { c with state := .off, endTime := none } else c)
    |>.modHeat fun h => { h with waitList := [] }

/-- R174: the interval of a wake code, in minutes. -/
def wakeMinutes : Nat → Nat
  | 1 => 1
  | 2 => 2
  | 3 => 5
  | 4 => 10
  | 5 => 15
  | 6 => 20
  | 7 => 30
  | 8 => 45
  | 9 => 60
  | 10 => 120
  | 11 => 180
  | 12 => 240
  | 13 => 360
  | 14 => 720
  | 15 => 1440
  | _ => 0

/-- R174: the part leaves RUN for DORMANT with a wake code. -/
def Part.sleep (p : Part) (code : Nat) : Part :=
  let q := p.modMgmt fun m => { m with
    partState := .dormant
    wakeAt := if code = 0 then none else some (p.now + 60000 * wakeMinutes code) }
  let q := (q.setPartClaims false).sleepMonitor.stopTimers
  (q.endManual.restZones).demandDue

end Sys2Proof.Machine
end

