-- ==== Sys2Proof/Machine/Fields.lean ====
section
/-! DEFINITION. The fields of answers and notices at the widths of R190, and the content of each notice
(R191). The orders follow the rules that name the fields; where the manual leaves a layout open, log 17. -/

namespace Sys2Proof.Machine

/-! ## Widths (R190) -/

/-- A power in W, 3 bytes. The manual states no result for a power that does not fit (log 9). -/
def powerBytes (n : Nat) : List Byte :=
  if n < 2 ^ 24 then beBytes 3 n else beBytes 3 (Config.unstatedPowerField n).toNat

/-- A count, 1 byte. The manual states no result for a count that does not fit (log 10). -/
def countByte (n : Nat) : Byte := if n < 256 then BitVec.ofNat 8 n else Config.unstatedCountField n

/-- A temperature, 1 byte; an absent one is 0x80. -/
def tempByte : Option Int → Byte
  | none => 0x80#8
  | some t => BitVec.ofInt 8 t

/-- A resistance, 2 bytes. -/
def resistanceBytes (n : Nat) : List Byte := beBytes 2 n

/-- A resistance that may be absent: a presence byte, then 2 bytes. -/
def maybeResistance : Option Nat → List Byte
  | none => [0#8, 0#8, 0#8]
  | some n => 1#8 :: resistanceBytes n

/-- A 2-byte figure of which 0 is a value: all ones when absent. -/
def maybeU16 : Option Nat → List Byte
  | none => [0xFF#8, 0xFF#8]
  | some n => beBytes 2 n

/-- A 2-byte figure of which 0 is no value: 0 when absent. -/
def maybeU16Zero : Option Nat → List Byte
  | none => [0#8, 0#8]
  | some n => beBytes 2 n

/-- A 1-byte code of which 0 is no value: 0 when absent. -/
def maybeCodeZero : Option Byte → Byte
  | none => 0#8
  | some b => b

/-- A 1-byte code of which 0 is a value: all ones when absent. -/
def maybeCode : Option Byte → Byte
  | none => 0xFF#8
  | some b => b

/-! ## Notices (R191) -/

/-- The event code of HEAT_ZONE with what the raising rule adds to it. -/
def ZoneEvent.bytes : ZoneEvent → List Byte
  | .start => [0#8, ZoneState.code .burst]
  | .ended e st => [1#8, e.code, st.code]
  | .extended n => [2#8, countByte n]
  | .quarantine => [3#8]
  | .restore => [4#8]
  | .mismatch commanded reading => [5#8, flagByte commanded, switchCode reading]

/-- Verdict, culprit and reason of LOCATE_RESULT. An absent culprit is 0, which is no value of it, since MAIN is
never shed; an absent reason is all ones, since 0 is CONTEXT (R190). -/
def LocateEnd.bytes : LocateEnd → List Byte
  | .quarantined b => [0#8, b.code, 0xFF#8]
  | .bus => [1#8, 0#8, 0xFF#8]
  | .abandoned r => [2#8, 0#8, r.code]

/-- The content of a notice, in its raising rule's order. A field that only some cases carry is written as absent
in the others, but for TRIP_CHANGE's threshold and the fields after HEAT_ZONE's event code, which are left out: the
model's choice (log 17), and so are the widths of an address and of a session ordinal (log 44). -/
def NoticeBody.bytes : NoticeBody → List Byte
  | .sessionState record left entered causes cause =>
    beBytes 2 record ++ [left.code, entered.code, causes.code, causeCode cause]
  | .sessionClosed record ordinal cause => beBytes 2 record ++ beBytes 2 ordinal ++ [causeCode cause]
  | .heatZone zone event => zone.code :: event.bytes
  | .departureDone minute target weekly reason coldest =>
    beBytes 2 minute ++ [tempByte target, flagByte weekly, reason.code, tempByte coldest]
  | .insulationState left entered context latest reason =>
    [left.code, entered.code, context.code] ++ maybeResistance latest
      ++ [maybeCode (reason.map UnknownReason.code)]
  | .tripChange latchSet context reading threshold =>
    [flagByte latchSet, context.code] ++ resistanceBytes reading
      ++ (threshold.map resistanceBytes).getD []
  | .selfCheckResult failure count reading low high =>
    [flagByte failure.isSome, maybeCode (failure.map CheckFailure.code), countByte count]
      ++ maybeResistance reading ++ resistanceBytes low ++ resistanceBytes high
  | .locateResult how before last results record =>
    how.bytes ++ resistanceBytes before ++ resistanceBytes last ++ results.map StepResult.code
      ++ beBytes 2 record
  | .nodeState role address left entered => [role.code, address, left.code, entered.code]
  | .orderRefused src kind target => [src, kind.code, target.code]
  | .contactorMismatch branch commanded feedback reason =>
    [branch.code, flagByte commanded, switchCode feedback, reason.code]
  | .budgetOverdrawn source available reservation =>
    source.code :: (powerBytes available ++ powerBytes reservation)
  | .storeLow free held oldest reserved =>
    beBytes 2 free ++ [countByte held] ++ beBytes 2 oldest ++ beBytes 2 reserved
  | .tableCommitted table length crc => table.code :: (beBytes 2 length ++ beBytes 2 crc.toNat)

/-- R191: kind number, clock stamp of the raising, content. -/
def Notice.payload (n : Notice) : List Byte :=
  BitVec.ofNat 8 n.body.number :: (stampBytes n.stamp ++ n.body.bytes)

end Sys2Proof.Machine
end

