-- ==== Sys2Proof/Machine/Port.lean ====
section
/-! DEFINITION. Port B (1.2, 1.5): the outbound arbiter, the frames the part forms, and the clamping of a
departing power order. -/

namespace Sys2Proof.Machine

/-! ## The part's own frames -/

/-- The payload of a drive (11.2). -/
def Drive.payload : Drive → List Byte
  | .setpoint watts => 0x01#8 :: beBytes 2 watts
  | .currentRequest deciAmps => 0x02#8 :: beBytes 2 deciAmps
  | .switchSet main dcInlet converter cargo => [0x10#8, nibble main dcInlet converter cargo]
  | .isolationSet closed => [0x11#8, closed.nibble]
  | .heatSet on => [0x12#8, on.nibble]
  | .injectorMode mode => [0x13#8, mode.code]

/-- R179: a frame the part originates begins transmission with the next outbound sequence number. -/
def Part.transmitOwn (p : Part) (dst : Byte) (kind : FrameKind) (marks : Byte) (payload : List Byte) : Part :=
  (p.modChain fun c => { c with portB := some ⟨c.address, dst, kind, p.mgmt.outSeq, marks, payload⟩ })
    |>.modMgmt fun m => { m with outSeq := m.outSeq + 1#8 }

/-- R24: a drive leaves; its destination is taken from the NODE table then in force (log 32). -/
def Part.sendDrive (p : Part) (d : Drive) (rest : List Drive) : Part :=
  (p.modDrive fun u => { u with queue := rest }).transmitOwn ((p.addressOf d.target).getD 0#8) .drive 0#8
    d.payload

/-- The header of an answer payload (R190). -/
def Answer.header (a : Answer) : List Byte := a.code :: (beBytes 2 a.tag.toNat ++ [a.status.code])

/-- R190: the next frame of the oldest answer leaves. The frames but the last hold 28 bytes of fields and
the MORE mark; the place frees with the last. -/
def Part.sendAnswer (p : Part) (a : Answer) (rest : List Answer) : Part :=
  if a.fields.length ≤ 28 then
    (p.modMgmt fun m => { m with answers := rest }).transmitOwn a.dst .answer 0#8 (a.header ++ a.fields)
  else
    (p.modMgmt fun m => { m with answers := { a with fields := a.fields.drop 28 } :: rest }).transmitOwn
      a.dst .answer 2#8 (a.header ++ a.fields.take 28)

/-- The oldest notice leaves (R180, R191). -/
def Part.sendNotice (p : Part) (n : Notice) (rest : List Notice) : Part :=
  (p.modMgmt fun m => { m with notices := rest }).transmitOwn n.dst .notice 0#8 n.payload

/-! ## Clamping at departure (R17) -/

/-- The function a clamped order carries for each target (11.2). -/
def clampFunction : Role → Option Byte
  | .converter => some 0x01#8
  | .inlet => some 0x02#8
  | _ => none

/-- R17: a frame is an ORDER to the entry of a target and carries the clamped value: its function byte
matches and its payload holds the two bytes of the value. -/
def Part.ordersTo (p : Part) (f : Frame) (target : Role) : Bool :=
  f.kind == .order && p.addressOf target == some f.dst && decide (3 ≤ f.payload.length)
    && some (byteAt f.payload 0) == clampFunction target

/-- The frame rewritten to a value and marked CLAMPED (R17, R189). -/
def Frame.clamped (f : Frame) (value : Nat) : Frame :=
  { f with
    marks := f.marks ||| 1#8
    payload := byteAt f.payload 0 :: (beBytes 2 value ++ f.payload.drop 3) }

/-- R17: the frame as it leaves against a target limit. -/
def Frame.against (f : Frame) (limit : Nat) : Frame :=
  if limit < u16 f.payload 1 then f.clamped limit else f

/-- R17: the oldest forwarded frame leaves. A clamped order's value becomes the target's last forwarded
value, and a clamp drive to that target still waiting is withdrawn. -/
def Part.sendForward (p : Part) (f : Frame) (rest : List Frame) : Part :=
  let q := p.modChain fun c => { c with fwd := rest }
  if p.ordersTo f .converter then
    let g := f.against p.converterLimit
    ((q.modChain fun c => { c with portB := some g }).modClamp
        fun c => { c with converter := some (u16 g.payload 1) }).modDrive
      fun u => { u with queue := u.queue.filter (fun d => !(d.sameFunction (.setpoint 0))) }
  else if p.ordersTo f .inlet then
    let g := f.against p.inletLimit
    ((q.modChain fun c => { c with portB := some g }).modClamp
        fun c => { c with inlet := some (u16 g.payload 1) }).modDrive
      fun u => { u with queue := u.queue.filter (fun d => !(d.sameFunction (.currentRequest 0))) }
  else q.modChain fun c => { c with portB := some f }

/-! ## The outbound arbiter (R7) -/

/-- R7: with port B idle, the oldest frame of the first source that holds one begins transmission: drive
queue, forward FIFO, answer queue, notice queue. -/
def Part.arbitrate (p : Part) : Part :=
  match p.chain.portB with
  | some _ => p
  | none =>
    match p.drive.queue with
    | d :: rest => p.sendDrive d rest
    | [] =>
      match p.chain.fwd with
      | f :: rest => p.sendForward f rest
      | [] =>
        match p.mgmt.answers with
        | a :: rest => p.sendAnswer a rest
        | [] =>
          match p.mgmt.notices with
          | n :: rest => p.sendNotice n rest
          | [] => p

/-- R6: a frame joins the forward FIFO, or is dropped with LINK_OVERRUN set when 8 are held. -/
def Part.forward (p : Part) (f : Frame) : Part :=
  p.modChain fun c =>
    if c.fwd.length < 8 then { c with fwd := c.fwd ++ [f] } else { c with linkOverrun := true }

end Sys2Proof.Machine
end

