-- ==== Sys2Proof/Machine/Nodes.lean ====
section
/-! DEFINITION. Frames at port A (1.1, 1.3): the check, the routes of R4, the command queue's intake
(R5, R177), and the use of samples (R10 to R12) with each consumer's reaction. -/

namespace Sys2Proof.Machine

/-! ## What a sample carries (11.2, R11) -/

/-- The readings of one usable sample. -/
inductive Reading where
  | inlet (r : InletReadings)
  | pack (r : PackReadings)
  | heater (r : HeaterReadings)
  | cargo (r : CargoReadings)
  | converter (s : ConverterState)
  | contactor (r : ContactorReadings)
  | injector (r : InjectorReadings)
  deriving DecidableEq, Repr

/-- An INLET payload: the phase count must be 1 or 3. -/
def readInlet (b : List Byte) : Option InletReadings :=
  if b.length = 15 ∧ (u8 b 3 = 1 ∨ u8 b 3 = 3) then
    some ⟨bitAt b 0 0, if bitAt b 0 1 then .dc else .ac, bitAt b 0 2, bitAt b 0 3, u16 b 1, u8 b 3,
      u16 b 4, u32 b 6, BitVec.ofNat 32 (u32 b 10), byteAt b 14⟩
  else none

/-- The temperatures of a zone in a PACK payload. -/
def tempsAt (b : List Byte) (pos : Nat) : ZoneTemps := ⟨i8 b pos, i8 b (pos + 1)⟩

/-- A PACK payload: the SOC must not exceed 100. -/
def readPack (b : List Byte) : Option PackReadings :=
  if b.length = 13 ∧ u8 b 4 ≤ 100 then
    some ⟨u16 b 0, u8 b 4, ⟨tempsAt b 5, tempsAt b 7, tempsAt b 9, tempsAt b 11⟩⟩
  else none

/-- A HEATER payload. -/
def readHeater (b : List Byte) : Option HeaterReadings :=
  if b.length = 6 then
    some ⟨zoneBits (byteAt b 0) 0, zoneBits (byteAt b 0) 4, BitVec.ofNat 32 (u32 b 1), byteAt b 5⟩
  else none

/-- A CARGO payload. -/
def readCargo (b : List Byte) : Option CargoReadings :=
  if b.length = 7 then some ⟨u16 b 0, BitVec.ofNat 32 (u32 b 2), byteAt b 6⟩ else none

/-- A CONVERTER payload: a state above 2 is unknown. -/
def readConverter (b : List Byte) : Option ConverterState :=
  if b.length = 5 then
    match u8 b 4 with
    | 0 => some .stopped
    | 1 => some .running
    | 2 => some .fault
    | _ => none
  else none

/-- A CONTACTOR payload. -/
def readContactor (b : List Byte) : Option ContactorReadings :=
  if b.length = 1 then some ⟨bitAt b 0 0, bitAt b 0 1, bitAt b 0 2, bitAt b 0 3⟩ else none

/-- An INJECTOR payload: a mode echo above 3 is unknown. -/
def readInjector (b : List Byte) : Option InjectorReadings :=
  if b.length = 6 then
    (InjectorMode.ofCode (u8 b 0)).map fun m => ⟨m, u16 b 1, flagAt b 3, u16 b 4⟩
  else none

/-- R11: the readings of a role's sample, when it is usable. GATEWAY samples are not examined. -/
def readSample (role : Role) (b : List Byte) : Option Reading :=
  match role with
  | .gateway => none
  | .inlet => (readInlet b).map Reading.inlet
  | .pack => (readPack b).map Reading.pack
  | .heater => (readHeater b).map Reading.heater
  | .cargo => (readCargo b).map Reading.cargo
  | .converter => (readConverter b).map Reading.converter
  | .contactor => (readContactor b).map Reading.contactor
  | .injector => (readInjector b).map Reading.injector

/-! ## The use of a sample (R12) -/

/-- R12, R14: an entry's runtime at a used sample. In DORMANT no timer starts. -/
def Part.usedNow (p : Part) (seq : Byte) : EntryRuntime :=
  ⟨.live, some seq, some p.now, if p.mgmt.partState = .dormant then none else some p.now⟩

/-- R12: an entry becomes LIVE with its timer restarted; NODE_STATE is raised when it was not. -/
def Part.markUsed (p : Part) (e : NodeEntry) (seq : Byte) : Part :=
  let left := (p.nodes.runtime.get e.role).state
  let q := p.modEntry e.role fun _ => p.usedNow seq
  if left = .live then q else q.raise (.nodeState e.role e.address left .live)

/-- R12: the readings of an entry replaced. -/
def Part.setReading (p : Part) (r : Reading) : Part :=
  p.modNodes fun n =>
    match r with
    | .inlet x => { n with inlet := some x }
    | .pack x => { n with pack := some x }
    | .heater x => { n with heater := some x }
    | .cargo x => { n with cargo := some x }
    | .converter x => { n with converter := some x }
    | .contactor x => { n with contactor := some x }
    | .injector x => { n with injector := some x }

/-! ## Switch feedback (R27, R29) -/

/-- What a feedback reading means for a branch. -/
inductive FeedbackOutcome where
  | quiet | confirmed | moved
  deriving DecidableEq, Repr

/-- R27, R29: the outcome of a reading for a branch's entry. A wrong reading while FAULTY is set is no new
movement. -/
def BranchEntry.judge (e : BranchEntry) (reading : Bool) : FeedbackOutcome :=
  match e.change with
  | some _ => if reading = e.commanded then .confirmed else .quiet
  | none => if reading = e.commanded || e.faulty then .quiet else .moved

/-- R27, R29: a branch's entry after a reading. -/
def BranchEntry.withFeedback (e : BranchEntry) (reading : Bool) : BranchEntry :=
  if reading = e.commanded then { e with feedback := some reading, change := none, faulty := false }
  else { e with feedback := some reading, faulty := e.faulty || e.change.isNone }

/-- R78: the session leaves CONNECTING when its inlet branch's change to CLOSED is confirmed. -/
def Part.connectConfirmed (p : Part) (b : Branch) (closed : Bool) : Part :=
  if p.session.state = .connecting && p.ownsInlet b && closed then p.enterPowered else p

/-- The jobs told of a branch's outcome: the Locator, then the Session Controller (R27 to R29, log 28). -/
def Part.tellFeedback (p : Part) (b : Branch) (reading : Bool) (o : FeedbackOutcome) : Part :=
  match o with
  | .quiet => p
  | .confirmed => (p.locateConfirmed b reading).connectConfirmed b reading
  | .moved =>
    ((p.raise (.contactorMismatch b (p.branch b).commanded (some reading) .uncommanded)).locateMoved
      b).reportContactor b

/-- R27: the readings of a used sample: every feedback is taken first, then the notices are raised and the jobs
told, branch by branch in branch order. That order is the model's choice (log 42). -/
def Part.takeSwitches (p : Part) (readings : List (Branch × Bool)) : Part :=
  let q := readings.foldl (fun q r => q.modBranch r.1 fun e => e.withFeedback r.2) p
  readings.foldl (fun q r => q.tellFeedback r.1 r.2 ((p.branch r.1).judge r.2)) q

/-! ## Failed changes (R28, R30) -/

/-- The state that a branch's pending change awaits; with none pending, its commanded state. -/
def BranchEntry.awaited (e : BranchEntry) : Bool :=
  match e.change with
  | some w => w.awaited
  | none => e.commanded

/-- R28, R30: a branch's pending change ends, failed, and FAULTY is set. -/
def Part.endChange (p : Part) (b : Branch) : Part :=
  p.modBranch b fun e => { e with change := none, faulty := true }

/-- R28, R30: the notice of a failed change of a branch, given its entry as it stood before, and the owning jobs
told. -/
def Part.tellFailed (p : Part) (reason : MismatchReason) (b : Branch) (e : BranchEntry) : Part :=
  ((p.raise (.contactorMismatch b e.commanded e.feedback reason)).locateFailed b e.awaited).reportContactor b

/-- R28: one branch's pending change fails. -/
def Part.failChange (p : Part) (reason : MismatchReason) (b : Branch) : Part :=
  (p.endChange b).tellFailed reason b (p.branch b)

/-- The branches of a node, among those given, that have a pending change. -/
def Part.pendingOf (p : Part) (role : Role) (bs : List Branch) : List Branch :=
  bs.filter fun b => b.carrier == role && (p.branch b).change.isSome

/-- R30: the pending changes of a node's branches end at once, failed; then the notices are raised and the jobs
told, branch by branch in the order given. That order is the model's choice (log 42). -/
def Part.failNode (role : Role) (bs : List Branch) (p : Part) : Part :=
  let failing := p.pendingOf role bs
  let q := failing.foldl (fun q b => q.endChange b) p
  failing.foldl (fun q b => q.tellFailed .nodeStale b (p.branch b)) q

/-! ## Consumers (the table of R12) -/

/-- R38, R40 to R43: an INLET sample's energy. -/
def Part.meterInlet (p : Part) (e : NodeEntry) (r : InletReadings) : Part :=
  let q := p.moveBase e r.register r.epoch
  match p.judgeMeter e r.register r.epoch with
  | .baseOnly => q
  | .accepted n => q.acceptInlet n
  | .rejected n => q.rejectInlet n

/-- R38, R39, R115: a HEATER sample's energy. -/
def Part.meterHeater (p : Part) (e : NodeEntry) (r : HeaterReadings) : Part :=
  let q := p.moveBase e r.register r.epoch
  match p.judgeMeter e r.register r.epoch with
  | .accepted n => (q.modMeter fun m => { m with heatPool := addPool m.heatPool n }).chargeManual n
  | _ => q

/-- R38, R39: a CARGO sample's energy. -/
def Part.meterCargo (p : Part) (e : NodeEntry) (r : CargoReadings) : Part :=
  let q := p.moveBase e r.register r.epoch
  match p.judgeMeter e r.register r.epoch with
  | .accepted n => q.modMeter fun m => { m with cargoPool := addPool m.cargoPool n }
  | _ => q

/-- An INLET sample's consumers, energy first (R12): Metering Unit, Session Controller, wake path (R175).
The offer and the charger-monitor flag act at the end of the event. -/
def Part.useInlet (p : Part) (e : NodeEntry) (r : InletReadings) : Part :=
  let q := (p.meterInlet e r).inletReturns r
  if p.mgmt.partState = .dormant && r.plugPresent then q.wake .plug else q

/-- A PACK sample's consumers: band power (R72) with R81 and then FULL (that order is log 21), the HOT test (R108),
demand (R101). -/
def Part.usePack (p : Part) : Part :=
  let q := p.modSession fun s => { s with bandPower := p.bandPowerNow }
  let q := q.moveByBand.checkFull
  (Part.endBurstsOf .hot q.hotZones q).demandDue

/-- A HEATER sample's consumers, energy first (R12): Metering Unit, Drive Unit, Heating Controller. The increment
that exhausts the manual source ends its bursts before the heat-on readings are taken, which is the model's choice
(log 48). `returned` says that the entry was not LIVE: the first used sample of an UNSEEN entry evaluates demand as
a return does, which is the model's choice (log 46). -/
def Part.useHeater (p : Part) (e : NodeEntry) (r : HeaterReadings) (returned : Bool) : Part :=
  let i := r.isolation
  let q := (p.meterHeater e r).takeSwitches
    [(.zone1, i.z1), (.zone2, i.z2), (.zone3, i.z3), (.zone4, i.z4)]
  let q := q.takeHeatOns r.heatOn
  if returned then q.demandDue else q

/-- A CARGO sample's consumers: Metering Unit and, while the CARGO branch is free, the window (R59). -/
def Part.useCargo (p : Part) (e : NodeEntry) (r : CargoReadings) : Part :=
  let q := p.meterCargo e r
  if (p.branch .cargo).quarantine then q
  else q.modBudget fun b => { b with window := joinWindow b.window r.power }

/-- R90: a used CONVERTER sample showing FAULT. -/
def Part.useConverter (p : Part) (s : ConverterState) : Part :=
  if s = .fault ∧ p.session.kindActual = some .ac ∧ p.session.state.connected then p.terminate .converter
  else p

/-- A used sample's readings handed to the blocks that consume them (R12). `returned` says that the entry
was STALE, `fresh` that it was not LIVE: STALE or UNSEEN (log 46). -/
def Part.consume (p : Part) (e : NodeEntry) (r : Reading) (returned fresh : Bool) : Part :=
  match r with
  | .inlet x => p.useInlet e x
  | .pack _ => p.usePack
  | .heater x => p.useHeater e x fresh
  | .cargo x => p.useCargo e x
  | .converter x => p.useConverter x
  | .contactor x =>
    p.takeSwitches [(.main, x.main), (.dcInlet, x.dcInlet), (.converter, x.converter), (.cargo, x.cargo)]
  | .injector x => p.takeInjector x returned

/-- R12: a sample is used, and the event settles. -/
def Part.useSample (p : Part) (e : NodeEntry) (seq : Byte) (r : Reading) : Part :=
  let left := (p.nodes.runtime.get e.role).state
  (((p.markUsed e seq).setReading r).consume e r (left == .stale) (left != .live)).finish

/-- R10, R11: a SAMPLE frame examined by the Node Table. GATEWAY frames have been taken before. -/
def Part.examineSample (p : Part) (f : Frame) : Part :=
  match p.entryAt f.src with
  | none => p
  | some e =>
    match readSample e.role f.payload with
    | none => p
    | some r => if (p.nodes.runtime.get e.role).lastSeq = some f.seq then p else p.useSample e f.seq r

/-- R10: any frame from the GATEWAY entry's address is a used sample of that entry. -/
def Part.noteGateway (p : Part) (f : Frame) : Part :=
  match p.entryOf .gateway with
  | none => p
  | some e => if e.address = f.src then p.markUsed e f.seq else p

/-! ## Commands (R5, R177) -/

/-- The tag of a command payload (11.3). -/
def tagOf (payload : List Byte) : BitVec 16 := BitVec.ofNat 16 (u16 payload 1)

/-- R179: an answer to a command. -/
def answerTo (c : Frame) (status : Status) (fields : List Byte) : Answer :=
  ⟨c.src, byteAt c.payload 0, tagOf c.payload, status, fields⟩

/-- An answer joins the answer queue at the tail. -/
def Part.pushAnswer (p : Part) (a : Answer) : Part := p.modMgmt fun m => { m with answers := m.answers ++ [a] }

/-- R177: a command joins the queue, or meets a full one: QUEUE_FULL at once if the answer queue has a
place, else removed. One too short to carry a tag is removed (log 15). -/
def Part.enqueueCommand (p : Part) (f : Frame) : Part :=
  if p.mgmt.commands.length < 8 then p.modMgmt fun m => { m with commands := m.commands ++ [f] }
  else if p.mgmt.answers.length < 8 ∧ 3 ≤ f.payload.length then p.pushAnswer (answerTo f .queueFull [])
  else p

/-- R5: the source of a command is acceptable. -/
def Part.acceptsFrom (p : Part) (src : Byte) : Bool :=
  match p.entryOf .gateway with
  | none => true
  | some e => e.address == src

/-! ## Routes (R4) -/

/-- R15: the switch-carrying node a destination names. -/
def Part.switchTarget (p : Part) (dst : Byte) : Option Role :=
  if p.addressOf .contactor = some dst then some .contactor
  else if p.addressOf .heater = some dst then some .heater
  else none

/-- R4, R15: an ORDER or DRIVE frame. -/
def Part.routeOrder (p : Part) (f : Frame) : Part :=
  match p.switchTarget f.dst with
  | some r => p.raise (.orderRefused f.src f.kind r)
  | none => if f.dst = p.chain.address then p else p.forward f

/-- R4: an accepted frame not removed under R3. -/
def Part.route (p : Part) (f : Frame) : Part :=
  match f.kind with
  | .command =>
    if f.dst = p.chain.address then (if p.acceptsFrom f.src then p.enqueueCommand f else p)
    else p.forward f
  | .sample =>
    let q := p.examineSample f
    if f.dst = p.chain.address then q else q.forward f
  | .order => p.routeOrder f
  | .drive => p.routeOrder f
  | .answer => if f.dst = p.chain.address then p else p.forward f
  | .notice => if f.dst = p.chain.address then p else p.forward f

/-- R2, R3: a frame received whole at port A. -/
def Part.receive (p : Part) (bytes : List Byte) : Part :=
  match Frame.receive bytes with
  | none => p.modChain fun c => { c with linkError := true }
  | some f => if f.src = p.chain.address then p else (p.noteGateway f).route f

end Sys2Proof.Machine
end

