-- ==== Sys2Proof/Machine/Commands.lean ====
section
/-! DEFINITION. The taking of a command (R177 to R179): when the head is taken, the gates of R178, and what
a command's work leads to. -/

namespace Sys2Proof.Machine

/-- What a taken command leads to: removal without an answer, an answer with its fields after the work, or
the start of an operation that holds the head of the queue (R184). -/
inductive Reply where
  | silent
  | answer (after : Part) (status : Status) (fields : List Byte)
  | hold (after : Part)
  deriving DecidableEq, Repr

/-- A refusal that carries nothing beyond tag and status, and changes nothing. -/
def Part.refuse (p : Part) (status : Status) : Reply := .answer p status []

/-- R177: the head is taken while the answer queue has a place and no validation holds the head. -/
def Part.takeable (p : Part) : Bool :=
  !p.mgmt.commands.isEmpty && p.mgmt.validation.isNone && decide (p.mgmt.answers.length < 8)

/-- The command leaves the command queue. -/
def Part.dropCommand (p : Part) : Part := p.modMgmt fun m => { m with commands := m.commands.drop 1 }

/-- R177, R179: what a reply to the head command does to the queues. -/
def respond (c : Frame) (before : Part) : Reply → Part
  | .silent => before.dropCommand
  | .answer after status fields => after.dropCommand.pushAnswer (answerTo c status fields)
  | .hold after => after

/-- R178: the steps before a command's own rule. -/
def Part.examine (p : Part) (name : CommandName) (work : Part → Frame → Reply) (c : Frame) : Reply :=
  if c.payload.length < 3 then .silent
  else if name = .unknown then p.refuse .unknownCommand
  else if !lengthOk name c.payload.length then p.refuse .range
  else if p.mgmt.partState = .dormant ∧ !name.takenInDormant then p.refuse .dormant
  else if p.mgmt.partState = .held ∧ !name.takenInHeld then p.refuse .wrongState
  else work p c

/-- The taking of the head command under a name: with the head not takeable, or another command at the
head, nothing happens (log 4). -/
def Part.takeAs (p : Part) (name : CommandName) (work : Part → Frame → Reply) : Part :=
  match p.mgmt.commands with
  | [] => p
  | c :: _ => if p.takeable ∧ nameOf c.payload = name then respond c p (p.examine name work c) else p

/-- A command that names nothing has no work of its own: R178 has answered or removed it. -/
def unknownWork (p : Part) (_ : Frame) : Reply := p.refuse .unknownCommand

end Sys2Proof.Machine
end

