-- ==== Sys2Proof/Machine/HeatCommands.lean ====
section
/-! DEFINITION. The Heating Controller's commands (06) and READ_BUDGET (R69), READ_BRANCHES (R31). -/

namespace Sys2Proof.Machine

/-! ## HEAT_NOW and HEAT_STOP (R114, R116) -/

/-- A target byte: 0x80 is absent (11.3). -/
def targetOf (b : List Byte) (pos : Nat) : Option Int :=
  if byteAt b pos = 0x80#8 then none else some (i8 b pos)

/-- A target that is present lies in 0..40 (R114, R120). -/
def targetOk (t : Option Int) : Bool := t.all (fun x => inRangeInt 0 40 x)

/-- The manual heat cap of the HEAT table in force, in kJ. -/
def Part.heatCap (p : Part) : Nat := p.heat.table.elim 0 (fun t => t.table.cap)

/-- The remaining energy of a manual source, 0 when none runs. -/
def Part.manualRemaining (p : Part) : Nat := p.heat.manual.elim 0 (fun m => m.remaining)

/-- R114. -/
def heatNowWork (p : Part) (c : Frame) : Reply :=
  let mask := zoneBits (byteAt c.payload 3) 0
  let target := targetOf c.payload 4
  let energy := u16 c.payload 5
  if mask = PerZone.fill false ∨ !targetOk target ∨ energy = 0 then p.refuse .range
  else if p.heatCap < energy then p.refuse .overLimit
  else
    let q := (p.modHeat fun h => { h with manual := some ⟨mask, target, 1000 * energy⟩ }).demandDue
    .answer q.finish .ok (beBytes 6 (1000 * energy) ++ beBytes 6 p.manualRemaining)

/-- R116. -/
def heatStopWork (p : Part) (_ : Frame) : Reply :=
  .answer ((p.endManual).endBursts .stopped).finish .ok
    [countByte p.burstCount, flagByte p.heat.manual.isSome]

/-! ## Departures (R120, R121) -/

/-- The entry with a departure minute. -/
def Part.departureAt (p : Part) (minute : Nat) : Option Departure :=
  p.heat.departures.find? (fun d => d.minute == minute)

/-- R120: an entry made or replaced, put in its place, and the windows evaluated. -/
def Part.setDeparture (p : Part) (d : Departure) : Part :=
  (p.modHeat fun h => { h with
      departures := insertDeparture d (h.departures.filter (fun e => e.minute != d.minute)) }).evalWindows

/-- R120. -/
def setDepartureWork (p : Part) (c : Frame) : Reply :=
  let minute := u16 c.payload 3
  let target := targetOf c.payload 5
  match p.meter.clock with
  | none => p.refuse .noClock
  | some clock =>
    if 10079 < minute ∨ !targetOk target then p.refuse .range
    else if 4 ≤ p.heat.departures.length ∧ (p.departureAt minute).isNone then p.refuse .storeFull
    else
      let toGo := minutesUntil minute clock.minute
      let q := (p.setDeparture ⟨minute, target, flagAt c.payload 6, toGo, false⟩).finish
      .answer q .ok (beBytes 2 toGo ++ [flagByte (p.departureAt minute).isSome,
        flagByte ((q.departureAt minute).any (fun d => d.active))])

/-- R121. -/
def cancelDepartureWork (p : Part) (c : Frame) : Reply :=
  let minute := u16 c.payload 3
  if 10079 < minute then p.refuse .range
  else if (p.departureAt minute).isNone then p.refuse .notFound
  else
    let q := (p.modHeat fun h => { h with
      departures := h.departures.filter (fun e => e.minute != minute) }).finish
    .answer q .ok [countByte q.heat.departures.length]

/-! ## READ_HEAT (R122) -/

/-- The whole seconds to a time (log 25). -/
def Part.secondsTo (p : Part) (t : Option Nat) : Option Nat := t.map (fun e => (e - p.now) / 1000)

/-- R122 part 0: one zone. -/
def Part.zoneFields (p : Part) (z : Zone) : List Byte :=
  let c := p.zone z
  [c.state.code, flagByte c.demand, tempByte c.effectiveTarget, countByte c.extensions]
    ++ maybeU16 (p.secondsTo c.endTime)
    ++ [maybeCode (c.lastEnding.map Ending.code), flagByte c.heatOn, switchCode c.feedback,
      flagByte c.mismatch]

/-- Up to four zones in four places, 0 for none (log 17). -/
def zoneSlots (zs : List Zone) : List Byte :=
  zs.map Zone.code ++ List.replicate (4 - zs.length) 0#8

/-- The departure source's target over the zones: the highest (log 30). -/
def Part.departureTargetAll (p : Part) : Option Int :=
  higher (higher (p.departureTarget .z1) (p.departureTarget .z2))
    (higher (p.departureTarget .z3) (p.departureTarget .z4))

/-- R122 part 1. -/
def Part.sourceFields (p : Part) : List Byte :=
  let h := p.heat
  zoneSlots h.waitList ++ zoneSlots h.burstOrder
    ++ [maybeCode (h.table.map (fun t => t.table.mode.code)), flagByte h.preheat.isSome,
      flagByte p.windowActive, flagByte h.manual.isSome, tempByte h.preheat, tempByte p.departureTargetAll,
      h.manual.elim 0#8 (fun m => m.mask.nibble), tempByte (h.manual.elim none (fun m => m.target))]
    ++ beBytes 6 p.manualRemaining ++ maybeU16 p.leadInForce

/-- R122 part 2: one entry. -/
def Departure.bytes (d : Departure) : List Byte :=
  beBytes 2 d.minute ++ [tempByte d.target, flagByte d.weekly] ++ beBytes 2 d.minutesToGo
    ++ [flagByte d.active]

/-- R122. Part 2 has one place for each entry held, and no count or empty places: the model's choice (log 17). -/
def readHeatWork (p : Part) (c : Frame) : Reply :=
  match u8 c.payload 3 with
  | 0 => .answer p .ok (p.zoneFields .z1 ++ p.zoneFields .z2 ++ p.zoneFields .z3 ++ p.zoneFields .z4)
  | 1 => .answer p .ok p.sourceFields
  | 2 => .answer p .ok (p.heat.departures.map Departure.bytes).flatten
  | _ => p.refuse .range

/-! ## READ_BUDGET (R69) -/

/-- One place of the heat request: zone, element power, state. -/
def HeatAsk.bytes (a : HeatAsk) : List Byte :=
  a.zone.code :: (powerBytes a.power ++ [if a.bursting then ZoneState.code .burst else ZoneState.code .waiting])

/-- The granted zones as bits 0..3. -/
def grantedByte (zs : List Zone) : Byte :=
  nibble (zs.contains .z1) (zs.contains .z2) (zs.contains .z3) (zs.contains .z4)

/-- R69: window and heat request in four places each, empty ones 0 (log 17). -/
def Part.budgetFields (p : Part) : List Byte :=
  let b := p.budget
  b.source.code :: (powerBytes b.available
    ++ (b.window.map powerBytes).flatten ++ List.replicate (3 * (4 - b.window.length)) 0#8
    ++ [countByte b.window.length] ++ powerBytes b.reservation ++ powerBytes b.free
    ++ (b.heatRequest.map HeatAsk.bytes).flatten ++ List.replicate (5 * (4 - b.heatRequest.length)) 0#8
    ++ powerBytes b.chargeRequest ++ powerBytes b.heatGrant ++ [grantedByte b.granted]
    ++ powerBytes b.chargeGrant ++ powerBytes b.basisAvailable ++ powerBytes b.basisReservation
    ++ [flagByte b.freeze, flagByte b.overdrawn,
      maybeCode (b.table.map (fun t => t.table.orderMode.code))])

/-- R69. -/
def readBudgetWork (p : Part) (_ : Frame) : Reply := .answer p .ok p.budgetFields

/-! ## READ_BRANCHES (R31) -/

/-- R31: one branch: claims (bit 0 PART, bit 1 SESSION), shed, quarantine, commanded state, feedback,
pending with the ms left, FAULTY. -/
def BranchEntry.bytes (e : BranchEntry) (now : Nat) : List Byte :=
  [nibble e.claimPart e.claimSession false false, flagByte e.shed, flagByte e.quarantine,
      flagByte e.commanded, switchCode e.feedback, flagByte e.change.isSome]
    ++ maybeU16 (e.change.map (fun w => w.deadline - now)) ++ [flagByte e.faulty]

/-- R31: the eight branches in order, then the safe line. -/
def Part.branchFields (p : Part) : List Byte :=
  (allBranches.map (fun b => (p.branch b).bytes p.now)).flatten ++ [flagByte p.drive.safeLine]

/-- R31. -/
def readBranchesWork (p : Part) (_ : Frame) : Reply := .answer p .ok p.branchFields

end Sys2Proof.Machine
end

