-- ==== Sys2Proof/Machine/InsulationCommands.lean ====
section
/-! DEFINITION. The commands of the Insulation Monitor (07) and the Branch Locator (08). -/

namespace Sys2Proof.Machine

/-- The context record in force. -/
def Part.contextRecord (p : Part) : Option ContextRecord :=
  p.monitor.table.map (fun t => t.table.record p.monitor.context)

/-- The recover limit of the context in force (0 with no table, log 33). -/
def Part.recoverLimit (p : Part) : Nat := p.contextRecord.elim 0 ContextRecord.recover

/-! ## CLEAR_TRIP (R135) -/

/-- R135: the latest settled reading and the recover limit, carried in every case. -/
def Part.clearTripFields (p : Part) : List Byte :=
  maybeResistance p.monitor.latest ++ resistanceBytes p.recoverLimit

/-- R135: the trip is cleared at a reading. -/
def Part.clearTrip (p : Part) (reading : Nat) : Part :=
  ((p.modMonitor fun m => { m with tripLatch := false }).raise
    (.tripChange false p.monitor.context reading none)).enterSettling

/-- R135. -/
def clearTripWork (p : Part) (_ : Frame) : Reply :=
  if p.monitor.state ≠ .tripped then .answer p .wrongState p.clearTripFields
  else
    match p.monitor.latest with
    | none => .answer p .tripped p.clearTripFields
    | some r =>
      if r < p.recoverLimit then .answer p .tripped p.clearTripFields
      else .answer (p.clearTrip r).finish .ok p.clearTripFields

/-! ## SELF_CHECK (R138) -/

/-- The acceptance band and the samples required. -/
def Part.checkFields (p : Part) : List Byte :=
  match p.monitor.table with
  | none => [0#8, 0#8, 0#8, 0#8, 0#8]
  | some t =>
    resistanceBytes t.table.acceptBand.1 ++ resistanceBytes t.table.acceptBand.2
      ++ [countByte t.table.samples]

/-- R138: a session past PLUG_WAIT is open. -/
def Part.sessionPastPlug (p : Part) : Bool :=
  p.session.state.connected || p.session.state == .ending

/-- R138. -/
def selfCheckWork (p : Part) (_ : Frame) : Reply :=
  if p.sessionPastPlug then p.refuse .sessionBusy
  else if p.tripped ∨ p.monitor.state = .checking ∨ 0 < p.burstCount ∨ p.locator.active then
    p.refuse .wrongState
  else .answer p.enterChecking.finish .ok p.checkFields

/-! ## READ_INSULATION (R141) -/

/-- The ms left to the mode deadline when a mode change is pending. -/
def Part.modeLeft (p : Part) : Option Nat := p.monitor.change.map (fun w => w.deadline - p.now)

/-- In CHECKING, the self-check count and the acceptance band; absent otherwise. -/
def Part.checkingFields (p : Part) : List Byte :=
  match p.monitor.state, p.monitor.table with
  | .checking, some t =>
    [countByte p.monitor.checkCount] ++ maybeResistance (some t.table.acceptBand.1)
      ++ maybeResistance (some t.table.acceptBand.2)
  | _, _ => [0xFF#8] ++ maybeResistance none ++ maybeResistance none

/-- R141. DC_INLET's flag stands before CONVERTER's, in the order of the branch codes: the model's choice (log 17). -/
def Part.insulationFields (p : Part) : List Byte :=
  let m := p.monitor
  let c := p.contextRecord
  [m.state.code, maybeCode (m.reason.map UnknownReason.code), m.wakeState.code, m.context.code,
      flagByte (p.countsClosed .dcInlet), flagByte (p.countsClosed .converter),
      flagByte p.chargerMonitorActive, m.mode.code,
      maybeCode (p.nodes.injector.map (fun r => r.echo.code))]
    ++ maybeU16 p.modeLeft ++ maybeResistance m.latest
    ++ maybeResistance (c.map (fun r => r.trip)) ++ maybeResistance (c.map (fun r => r.warn))
    ++ maybeResistance (c.map ContextRecord.recover)
    ++ [c.elim 0#8 (fun r => countByte r.confirm), c.elim 0xFF#8 (fun r => countByte r.settle)]
    ++ maybeResistance (c.map ContextRecord.recover)
    ++ [countByte m.tripCount, countByte m.warnCount, countByte m.recoverCount, countByte m.settleTaken,
      flagByte m.tripLatch]
    ++ p.checkingFields ++ maybeResistance (p.store.opened.map (fun r => r.lowest))

/-- R141. -/
def readInsulationWork (p : Part) (_ : Frame) : Reply := .answer p .ok p.insulationFields

/-! ## LOCATE_NOW (R155) -/

/-- R155. -/
def locateNowWork (p : Part) (_ : Frame) : Reply :=
  if p.tripped then p.refuse .tripped
  else if p.monitor.state = .faulty then p.refuse .monitorFault
  else if p.locator.active then p.refuse .wrongState
  else
    .answer (p.modLocator fun l => { l with latch := true }) .ok
      [p.monitor.state.code, flagByte p.locator.latch]

/-! ## RESTORE_BRANCH (R156) -/

/-- A branch's live entry. -/
def FaultEntry.liveFor (e : FaultEntry) (b : Branch) : Bool := e.live && e.branch == some b

/-- The index of a branch's live entry, all ones when it has none. -/
def Part.liveIndex (p : Part) (b : Branch) : Byte :=
  match p.locator.faults.findIdx? (fun e => e.liveFor b) with
  | none => 0xFF#8
  | some k => BitVec.ofNat 8 k

/-- R156: a branch is returned to service. -/
def Part.restoreBranch (p : Part) (b : Branch) : Part :=
  let q := p.modBranch b fun e => { e with quarantine := false }
  let q := q.modLocator fun l => { l with
    faults := l.faults.map fun e => { e with live := e.live && !e.liveFor b } }
  let q := match b.zone with
    | none => q
    | some z => q.restoreZone z
  q.settleRequest

/-- R156. -/
def restoreBranchWork (p : Part) (c : Frame) : Reply :=
  match Branch.ofSheddableCode (u8 c.payload 3) with
  | none => p.refuse .range
  | some b =>
    if p.locator.active then p.refuse .wrongState
    else if !(p.branch b).quarantine then p.refuse .notFound
    else .answer (p.restoreBranch b).finish .ok [p.liveIndex b]

/-! ## READ_FAULTS (R157) -/

/-- A fault list entry, its fields in the order of R154 (11.6). -/
def FaultEntry.bytes (e : FaultEntry) : List Byte :=
  [faultBranchCode e.branch, e.verdict.code] ++ resistanceBytes e.before ++ resistanceBytes e.after
    ++ stampBytes e.stamp ++ beBytes 2 e.recordNumber ++ [flagByte e.live]

/-- The number of entries and the number of live ones. -/
def Part.faultCounts (p : Part) : List Byte :=
  [countByte p.locator.faults.length, countByte (p.locator.faults.countP (fun e => e.live))]

/-- R157 index 255: the locate context, latch, inert flag and the shed list in seven places (log 17). That the cursor
takes one byte is the model's choice (log 44). -/
def Part.locateFields (p : Part) : List Byte :=
  let l := p.locator
  [flagByte l.active, countByte l.cursor, l.phase.code, countByte l.sampleCount]
    ++ l.results.map StepResult.code ++ resistanceBytes l.before ++ resistanceBytes l.last
    ++ [flagByte l.latch, flagByte l.inert] ++ p.shedList.map Branch.code
    ++ List.replicate (7 - p.shedList.length) 0#8

/-- R157. -/
def readFaultsWork (p : Part) (c : Frame) : Reply :=
  let index := u8 c.payload 3
  if index = 255 then .answer p .ok p.locateFields
  else if 11 < index then p.refuse .range
  else
    match p.locator.faults[index]? with
    | none => .answer p .ok p.faultCounts
    | some e => .answer p .ok (e.bytes ++ p.faultCounts)

end Sys2Proof.Machine
end

