-- ==== Sys2Proof/Machine/Management.lean ====
section
/-! DEFINITION. The Management Unit's own commands (10): STATUS, RELEASE, SLEEP, WAKE, CONFIGURE_MEMORY,
SET_NOTICE_MASK, RESET and SET_CLOCK. -/

namespace Sys2Proof.Machine

/-! ## STATUS (R182) -/

/-- A set of tables as a flag byte: bit n for table id n + 1 (log 18). -/
def tableSetByte (ts : List TableId) : Byte :=
  let bit (t : TableId) (k : Nat) : Nat := if ts.contains t then 2 ^ k else 0
  BitVec.ofNat 8 (bit .node 0 + bit .limit 1 + bit .budget 2 + bit .tariff 3 + bit .heat 4
    + bit .insulation 5)

/-- The raised bitmap and the three flags, as both pages carry them: the bitmap in 2 bytes and one byte for each
flag, which is the model's choice (log 44). -/
def Part.statusHead (p : Part) : List Byte :=
  beBytes 2 p.mgmt.raised.toNat
    ++ [flagByte p.chain.linkError, flagByte p.chain.linkOverrun, flagByte p.mgmt.noticeLost]

/-- The table id under staging, 0 for none. -/
def Part.stagingCode (p : Part) : Byte :=
  match p.mgmt.staging with
  | none => 0#8
  | some s => s.table.code

/-- Page 0. -/
def Part.statusPage0 (p : Part) : List Byte :=
  p.statusHead
    ++ [p.mgmt.partState.code, p.mgmt.wakeReason.code, p.monitor.state.code, flagByte p.monitor.tripLatch]
    ++ maybeResistance p.monitor.latest
    ++ p.session.state.code :: beBytes 2 p.session.recordNumber
    ++ flagByte p.meter.clock.isSome :: stampBytes p.meter.clock
    ++ beBytes 2 p.store.free
    ++ [p.stagingCode, tableSetByte p.mgmt.committed]

/-- Page 1. -/
def Part.statusPage1 (p : Part) : List Byte :=
  p.statusHead ++ energyBytes p.meter.inletSeen ++ energyBytes p.meter.billed
    ++ energyBytes p.meter.unbilled ++ energyBytes p.meter.rejected

/-- R182: both pages clear the raised bitmap, the link flags and NOTICE_LOST. -/
def Part.clearStatus (p : Part) : Part :=
  (p.modChain fun c => { c with linkError := false, linkOverrun := false }).modMgmt
    fun m => { m with raised := 0#16, noticeLost := false }

/-- R182. -/
def statusWork (p : Part) (c : Frame) : Reply :=
  match u8 c.payload 3 with
  | 0 => .answer p.clearStatus .ok p.statusPage0
  | 1 => .answer p.clearStatus .ok p.statusPage1
  | _ => p.refuse .range

/-! ## Part states (R173 to R175) -/

/-- The first absent table, in the order of R173. -/
def Part.firstAbsent (p : Part) : Option TableId :=
  if p.nodes.table.isNone then some .node
  else if p.session.table.isNone then some .limit
  else if p.budget.table.isNone then some .budget
  else if p.meter.tariff.isNone then some .tariff
  else if p.heat.table.isNone then some .heat
  else if p.monitor.table.isNone then some .insulation
  else none

/-- R173. -/
def releaseWork (p : Part) (_ : Frame) : Reply :=
  if p.mgmt.partState = .run then p.refuse .wrongState
  else
    match p.firstAbsent with
    | some t => .answer p .tableInvalid [t.code]
    | none =>
      let q := p.enterRunAtRelease.finish
      .answer q .ok [q.monitor.state.code]

/-- The minutes to go of the first departure entry. -/
def Part.firstToGo (p : Part) : Option Nat := p.heat.departures.head?.map (fun d => d.minutesToGo)

/-- R174. -/
def sleepWork (p : Part) (c : Frame) : Reply :=
  let code := u8 c.payload 3
  if p.mgmt.partState = .held then p.refuse .wrongState
  else if 15 < code then p.refuse .range
  else if p.sessionOpen then p.refuse .sessionBusy
  else if 0 < p.burstCount ∨ p.locator.active then p.refuse .wrongState
  else
    .answer (p.sleep code).finish .ok
      (beBytes 1 code ++ beBytes 2 (wakeMinutes code) ++ maybeU16Zero p.firstToGo)

/-- R175. That the answer carries the reason as a field is the model's choice (log 53). -/
def wakeWork (p : Part) (_ : Frame) : Reply :=
  if p.mgmt.partState = .dormant then
    .answer (p.wake .command).finish .ok [WakeReason.code .command]
  else p.refuse .wrongState

/-! ## Memory partition (R176) -/

/-- R176: the ranges of the three sizes. -/
def sizesOk (record staging notice : Nat) : Bool :=
  record % 32 == 0 && staging % 32 == 0 && notice % 32 == 0 && decide (2048 ≤ record)
    && (staging == 0 || inRange 256 2048 staging) && inRange 256 2048 notice
    && decide (record + staging + notice ≤ 16384)

/-- R185, R176, R188: a staging ends, its content is discarded and a borrow is returned (R170). -/
def Part.endStaging (p : Part) : Part :=
  (p.modMgmt fun m => { m with staging := none }).modStore fun s => { s with borrow := false }

/-- R176, R171: the partition takes three sizes. -/
def Part.configure (p : Part) (record staging notice : Nat) : Part :=
  let q := p.endStaging.modMgmt fun m => { m with
    recordSize := record
    stagingSize := staging
    noticeSize := notice
    notices := m.notices.take (notice / 32)
    noticeLost := m.noticeLost || decide (notice / 32 < m.notices.length) }
  q.modStore fun s => { s with areaSize := record, head := 0, tail := 0 }

/-- R176. -/
def configureMemoryWork (p : Part) (c : Frame) : Reply :=
  let record := u16 c.payload 3
  let staging := u16 c.payload 5
  let notice := u16 c.payload 7
  if p.mgmt.partState ≠ .held ∨ p.mgmt.committed ≠ [] then p.refuse .wrongState
  else if !sizesOk record staging notice then p.refuse .range
  else
    .answer (p.configure record staging notice) .ok
      (beBytes 2 record ++ beBytes 2 staging ++ beBytes 2 notice)

/-! ## Notice mask (R181) -/

/-- R181. -/
def setNoticeMaskWork (p : Part) (c : Frame) : Reply :=
  let mask := BitVec.ofNat 16 (u16 c.payload 3)
  if mask &&& 0xC000#16 ≠ 0#16 then p.refuse .range
  else .answer (p.modMgmt fun m => { m with mask := mask }) .ok (beBytes 2 p.mgmt.mask.toNat)

/-! ## The clock (R46) -/

/-- R46, R119: the clock set, the band looked up with its boundary, the departures moved, and the windows
evaluated. The clock is set first, so the notices of the move carry the new time: the model's choice (log 54). -/
def Part.setClock (p : Part) (clock : Clock) : Part :=
  let q := (p.modMeter fun m => { m with clock := some clock, clockPhase := 0 }).refreshBand
  let q := match p.meter.clock with
    | none => q
    | some old => q.moveDepartures old clock
  q.evalWindows

/-- R46: whether SET_CLOCK forms a boundary. -/
def Part.clockFormsBoundary (p : Part) (clock : Clock) : Bool :=
  p.store.opened.isSome && (p.modMeter fun m => { m with clock := some clock }).bandMoves

/-- R46. That the band index and the flag of its answer take one byte each is the model's choice (log 44). -/
def setClockWork (p : Part) (c : Frame) : Reply :=
  let clock : Clock := ⟨u16 c.payload 3, u16 c.payload 5, u8 c.payload 7⟩
  if 10079 < clock.minute ∨ 59 < clock.second then p.refuse .range
  else
    let q := (p.setClock clock).finish
    .answer q .ok (stampBytes q.meter.clock
      ++ [q.meter.band.index, q.meter.band.code, flagByte (p.clockFormsBoundary clock)])

/-! ## RESET (R187, R188) -/

/-- R187: the chain traffic of the part is cleared, but for the RESET itself at the head. -/
def Part.clearTraffic (p : Part) : Part :=
  (p.modChain fun c => { c with fwd := [], linkError := false, linkOverrun := false }).modMgmt
    fun m => { m with commands := m.commands.take 1, answers := [], notices := [], noticeLost := false }

/-- R187. A RESET whose scope is none of the three is refused here (log 5). -/
def resetLinkWork (p : Part) (c : Frame) : Reply :=
  if u8 c.payload 3 = 0 then .answer p.clearTraffic .ok [] else p.refuse .range

/-- R123: one zone's context after a heating reset, its burst having ended. -/
def ZoneContext.afterReset (c : ZoneContext) (quarantined : Bool) : ZoneContext :=
  { c with state := if quarantined then .quarantined else .off, demand := false, endTime := none }

/-- R123: the heating reset. The effective targets are set here, so that no demand is evaluated in the
reset event (log 36). Its HEAT_SET is queued as R123 says, though R33 leaves the drive queue unchanged under a RESET
of scope HEAT: the model's choice (log 55). -/
def Part.resetHeating (p : Part) : Part :=
  let q := p.endBursts .reset
  let b := q.drive.branches
  let q := q.modHeat fun h => { h with
    zones := ⟨h.zones.z1.afterReset b.zone1.quarantine, h.zones.z2.afterReset b.zone2.quarantine,
      h.zones.z3.afterReset b.zone3.quarantine, h.zones.z4.afterReset b.zone4.quarantine⟩
    waitList := []
    manual := none }
  (q.queueHeatSet.recomputeDue).placePreheat.setTargets

/-- R187. -/
def resetHeatWork (p : Part) (_ : Frame) : Reply := .answer p.resetHeating.finish .ok []

/-- R98: a PART reset closes an open session without a tail. -/
def Part.resetSession (p : Part) : Part :=
  let q :=
    if p.session.state.running then
      ((p.modSession fun s => { s with cause := some .reset }).modRecord
        fun r => { r with cause := some .reset }).closeSession
    else p.cutTail
  q.modSession fun s => { s with bandPower := 0, drawLimit := 0 }

/-- 3.8: the Metering Unit's PART reset. -/
def Part.resetMetering (p : Part) : Part :=
  (p.modMeter fun m => { m with
    inletBase := none
    heaterBase := none
    cargoBase := none
    cargoPool := 0
    heatPool := 0
    inletSeen := 0#48
    billed := 0#48
    unbilled := 0#48
    rejected := 0#48
    segment := none }).lookUpBand

/-- 1.4: every entry's runtime UNSEEN, no reading present. The table is kept. -/
def Part.resetNodes (p : Part) : Part :=
  p.modNodes fun n => { NodeTable.initial with table := n.table }

/-- R33: one branch after a PART reset; with a NODE table in force it awaits OPEN. -/
def BranchEntry.afterReset (e : BranchEntry) (deadline : Option Nat) : BranchEntry :=
  { BranchEntry.initial with
    quarantine := e.quarantine, change := deadline.map (fun d => ⟨false, d⟩) }

/-- R33: the Drive Unit's PART reset. -/
def Part.resetDrives (p : Part) : Part :=
  let deadline := if p.hasNodeTable then some (p.now + switchDeadline) else none
  let q := p.modDrive fun d => ⟨d.branches.map (fun e => e.afterReset deadline), [], false⟩
  (q.queueDrive (.switchSet false false false false)).queueDrive (.isolationSet (PerZone.fill false))

/-- R70: the Budget Arbiter's PART reset. -/
def Part.resetBudget (p : Part) : Part := p.modBudget fun b => { Budget.initial with table := b.table }

/-- R123: the Heating Controller's PART reset. -/
def Part.resetHeatingPart (p : Part) : Part :=
  p.resetHeating.modZones fun c => { c with feedback := none, mismatch := false }

/-- R142: the Insulation Monitor's PART reset. The mode pending change starts with no NODE table in force as well,
where no frame is queued, which is the model's choice (log 49). -/
def Part.resetMonitor (p : Part) : Part :=
  let left := p.monitor.state
  let q := (p.modMonitor fun m => { Monitor.initial with table := m.table, tripLatch := m.tripLatch }).queueMode
  if left = .off then q else q.raise (.insulationState left .off .parked none none)

/-- R158: the Branch Locator's PART reset. -/
def Part.resetLocator (p : Part) : Part :=
  (p.abandon .reset).modLocator fun l => { l with latch := false, inert := false }

/-- R188: a RESET of scope PART. -/
def Part.resetPart (p : Part) : Part :=
  let q := (p.clearTraffic.modMgmt fun m => { m with raised := 0#16 }).endStaging
  let q := q.modMgmt fun m => { m with partState := .held, wakeReason := .none, wakeAt := none }
  let q := q.resetSession.resetMetering.resetNodes.resetDrives
  let q := q.clampConverter.clampInlet.resetBudget.resetHeatingPart.resetMonitor.resetLocator
  q.finish

/-- R188. -/
def resetPartWork (p : Part) (_ : Frame) : Reply := .answer p.resetPart .ok []

end Sys2Proof.Machine
end

