-- ==== Sys2Proof/Machine/SessionCommands.lean ====
section
/-! DEFINITION. The session's commands (05) and the Record Store's (09): OPEN_SESSION, PAUSE_SESSION,
RESUME_SESSION, ABORT_SESSION, SPLIT_SESSION, SESSION_STATUS, READ_RECORD and RELEASE_RECORDS. -/

namespace Sys2Proof.Machine

/-! ## OPEN_SESSION (R75) -/

/-- The fields of an OPEN_SESSION payload (11.3). A field whose presence bit is clear is absent. -/
structure OpenFields where
  kindCode : Nat
  target : Option Nat
  duration : Option Nat
  stopSoc : Option Nat
  tailCount : Nat
  tags : Tags
  deriving DecidableEq, Repr

/-- Three account tags from a position. -/
def tagsAt (b : List Byte) (pos : Nat) : Tags :=
  ⟨BitVec.ofNat 32 (u32 b pos), BitVec.ofNat 32 (u32 b (pos + 4)), BitVec.ofNat 32 (u32 b (pos + 8))⟩

/-- The fields a payload carries. -/
def openFieldsOf (b : List Byte) : OpenFields :=
  { kindCode := u8 b 3
    target := if bitAt b 4 0 then some (u32 b 5) else none
    duration := if bitAt b 4 1 then some (u16 b 9) else none
    stopSoc := if bitAt b 4 2 then some (u8 b 11) else none
    tailCount := u8 b 12
    tags := tagsAt b 13 }

/-- R75: the ranges of the fields, but for the kind. -/
def OpenFields.inRange (f : OpenFields) : Bool :=
  f.target != some 0 && f.duration != some 0
    && f.stopSoc.all (fun s => Machine.inRange 50 100 s) && decide (f.tailCount ≤ 7)

/-- R75: the inlet branch of the kind expected is quarantined. A code that names no kind names no branch. -/
def Part.openQuarantined (p : Part) (kindCode : Nat) : Bool :=
  match Kind.ofCode kindCode with
  | none => false
  | some k => p.noFreeInlet k

/-- R75: the session context as OPEN_SESSION fills it. -/
def Session.openedWith (s : Session) (f : OpenFields) (k : Kind) (number now : Nat) : Session :=
  { s with
    kindExpected := some k
    kindActual := none
    recordNumber := number
    ordinal := number
    energyTarget := f.target
    tractionEnergy := 0#48
    durationLimit := f.duration
    stopSoc := f.stopSoc
    tailCount := f.tailCount
    tags := f.tags
    causes := SuspensionCauses.empty
    resume := none
    cause := none
    tailTaken := 0
    durationStart := f.duration.map (fun _ => now)
    inletGrace := none
    unknownGrace := none }

/-- R75: a session and its first record open. -/
def Part.openSession (p : Part) (f : OpenFields) (k : Kind) : Part :=
  let number := p.store.nextNumber
  ((p.openRecord number f.tags k false 0).modSession fun s => s.openedWith f k number p.now).enterSession
    .plugWait

/-- R75: the conditions in the order of the table, then the opening with the tests of PLUG_WAIT in the same
event. -/
def openSessionWork (p : Part) (c : Frame) : Reply :=
  let f := openFieldsOf c.payload
  if !p.inRun then p.refuse .wrongState
  else if p.sessionOpen then p.refuse .sessionBusy
  else if p.tripped then p.refuse .tripped
  else if p.monitor.state = .faulty then p.refuse .monitorFault
  else if p.openQuarantined f.kindCode then p.refuse .quarantined
  else if p.store.borrow then p.refuse .stagingActive
  else if p.store.free < reservation then p.refuse .storeFull
  else
    match Kind.ofCode f.kindCode with
    | none => p.refuse .range
    | some k =>
      if !f.inRange then p.refuse .range
      else .answer (p.openSession f k).finish .ok (beBytes 2 p.store.nextNumber)

/-! ## PAUSE, RESUME, ABORT (R93 to R95) -/

/-- The state and the suspension causes after a command. -/
def Part.stateAndCauses (p : Part) : List Byte := [p.session.state.code, p.session.causes.code]

/-- R93. -/
def pauseWork (p : Part) (_ : Frame) : Reply :=
  match p.session.state with
  | .closed => p.refuse .noSession
  | .ending => p.refuse .wrongState
  | _ =>
    let q := (p.addCause .pause).finish
    .answer q .ok q.stateAndCauses

/-- R94. -/
def resumeWork (p : Part) (_ : Frame) : Reply :=
  match p.session.state with
  | .closed => p.refuse .noSession
  | .ending => p.refuse .wrongState
  | _ =>
    let q := (p.removeCause .pause).finish
    .answer q .ok q.stateAndCauses

/-- R95: in ENDING the cause stays as it was (log 27 for a session that the command closes). -/
def abortWork (p : Part) (_ : Frame) : Reply :=
  match p.session.state with
  | .closed => p.refuse .noSession
  | _ =>
    let q := (p.terminate .abort).finish
    .answer q .ok [causeCode q.session.cause]

/-! ## SPLIT_SESSION (R96, R166) -/

/-- The closed size of the OPEN record as it stands (R166). -/
def Part.splitNeeds (p : Part) : Nat :=
  match p.store.opened with
  | none => reservation
  | some r => r.size

/-- The kind of the continuation record: the kind actual. -/
def Part.splitKind (p : Part) : Kind :=
  match p.session.kindActual with
  | none => .any
  | some k => k.toKind

/-- R96, R166: the current record closes with cause SPLIT, and a new one is reserved behind it. -/
def Part.split (p : Part) (tags : Tags) : Part :=
  let s := p.session
  let number := p.store.nextNumber
  let q := ((p.modRecord fun r => { r with cause := some .split }).closeRecord).raise
    (.sessionClosed s.recordNumber s.ordinal (some .split))
  let q := q.openRecord s.ordinal tags p.splitKind true (if s.state = .suspended then 1 else 0)
  q.modSession fun s => { s with recordNumber := number, tags := tags }

/-- R96. -/
def splitWork (p : Part) (c : Frame) : Reply :=
  match p.session.state with
  | .closed => p.refuse .noSession
  | .plugWait => p.refuse .wrongState
  | .ending => p.refuse .wrongState
  | _ =>
    if p.store.free < p.splitNeeds then
      .answer p .storeFull (beBytes 2 p.store.free ++ beBytes 2 p.splitNeeds)
    else
      .answer (p.split (tagsAt c.payload 3)) .ok
        (beBytes 2 p.session.recordNumber ++ beBytes 2 p.store.nextNumber)

/-! ## SESSION_STATUS (R97) -/

/-- The minutes elapsed on the duration timer. -/
def Part.minutesElapsed (p : Part) : Option Nat := p.session.durationStart.map (fun t => (p.now - t) / 60000)

/-- The OPEN record's segment count, 0 when none is OPEN. -/
def Part.segmentCount (p : Part) : Nat :=
  match p.store.opened with
  | none => 0
  | some r => r.segments.length

/-- R97. -/
def Part.sessionFields (p : Part) : List Byte :=
  let s := p.session
  [s.state.code, maybeCodeZero (s.resume.map SessionState.code), maybeCode (s.kindExpected.map Kind.code),
      maybeCode (s.kindActual.map ChargeKind.code)]
    ++ beBytes 2 s.recordNumber ++ beBytes 2 s.ordinal ++ [s.causes.code, causeCode s.cause]
    ++ energyBytes s.tractionEnergy ++ beBytes 4 (s.energyTarget.getD 0)
    ++ maybeU16 p.minutesElapsed ++ maybeU16Zero s.durationLimit
    ++ [countByte (p.stopSoc.getD 0), countByte s.tailCount, countByte s.tailTaken, countByte p.segmentCount]
    ++ powerBytes s.bandPower ++ [tempByte s.chargeEnable] ++ powerBytes p.chargeAsk
    ++ powerBytes s.drawLimit

/-- R97. -/
def sessionStatusWork (p : Part) (_ : Frame) : Reply := .answer p .ok p.sessionFields

/-! ## Records (R168, R169) -/

/-- The numbers of the oldest and newest held records. -/
def RecordStore.endsBytes (s : RecordStore) : List Byte := beBytes 2 s.oldest ++ beBytes 2 s.newest

/-- The state of the record with a number: OPEN 0, CLOSED 1 (log 18). -/
def RecordStore.stateByte (s : RecordStore) (number : Nat) : Byte :=
  match s.opened with
  | none => 1#8
  | some r => if r.number = number then 0#8 else 1#8

/-- R168. -/
def readRecordWork (p : Part) (c : Frame) : Reply :=
  let number := u16 c.payload 3
  let offset := u16 c.payload 5
  match p.store.find number with
  | none => .answer p .notFound p.store.endsBytes
  | some r =>
    if r.size ≤ offset then p.refuse .range
    else
      let count := min 24 (r.size - offset)
      .answer p .ok (beBytes 2 number ++ [p.store.stateByte number] ++ beBytes 2 r.size
        ++ beBytes 2 offset ++ beBytes 1 count ++ slice r.bytes offset count ++ p.store.endsBytes
        ++ beBytes 2 p.store.free)

/-- The number of CLOSED records from the oldest up to a named one. -/
def RecordStore.releaseCount (s : RecordStore) (number : Nat) : Nat :=
  (s.closed.takeWhile (fun r => r.number != number)).length + 1

/-- R169. -/
def releaseRecordsWork (p : Part) (c : Frame) : Reply :=
  let number := u16 c.payload 3
  if p.store.closed.any (fun r => r.number == number) then
    let q := p.modStore fun s => s.release number
    .answer q .ok (countByte (p.store.releaseCount number)
      :: (beBytes 2 q.store.oldest ++ beBytes 2 q.store.free))
  else .answer p .notFound p.store.endsBytes

end Sys2Proof.Machine
end

