-- ==== Sys2Proof/Machine/Staging.lean ====
section
/-! DEFINITION. Table staging and commit (10.5): LOAD_BEGIN, LOAD_DATA, LOAD_COMMIT with its completion,
LOAD_CANCEL, READ_TABLE, and the effect of each table's commit. -/

namespace Sys2Proof.Machine

/-! ## Staging (R183, R185) -/

/-- R183: what LOAD_BEGIN answers of the staging it discards: whether there was one, and its table. -/
def discardedFields (s : Option Staging) : List Byte :=
  match s with
  | none => [0#8, 0#8]
  | some g => [1#8, g.table.code]

/-- R183: a staging begins. -/
def Part.beginStaging (p : Part) (t : TableId) (length : Nat) : Part :=
  p.modMgmt fun m => { m with staging := some ⟨t, length, List.replicate 256 0#8⟩ }

/-- R170: a borrow is taken. -/
def Part.takeBorrow (p : Part) : Part := (p.modStore fun s => { s with borrow := true }).storeLowCheck 0

/-- R183: LOAD_BEGIN needs a borrow: a staging size of 0 and no borrow standing. -/
def Part.needsBorrow (p : Part) : Bool := p.mgmt.stagingSize == 0 && !p.store.borrow

/-- R183, R170. -/
def loadBeginWork (p : Part) (c : Frame) : Reply :=
  let length := u16 c.payload 4
  match TableId.ofCode (u8 c.payload 3) with
  | none => p.refuse .range
  | some t =>
    if length = 0 ∨ 256 < length then p.refuse .range
    else if p.needsBorrow ∧ p.sessionOpen then p.refuse .sessionBusy
    else if p.needsBorrow ∧ p.store.free < 544 then p.refuse .storeFull
    else
      let q := p.beginStaging t length
      .answer (if p.needsBorrow then q.takeBorrow else q) .ok (discardedFields p.mgmt.staging)

/-- Bytes written over a buffer from an offset. -/
def overwrite (buffer : List Byte) (offset : Nat) (data : List Byte) : List Byte :=
  buffer.take offset ++ data ++ buffer.drop (offset + data.length)

/-- R183. -/
def loadDataWork (p : Part) (c : Frame) : Reply :=
  let offset := u8 c.payload 3
  let data := c.payload.drop 4
  match p.mgmt.staging with
  | none => p.refuse .wrongState
  | some s =>
    if s.length < offset + data.length ∨ data.length = 0 ∨ 24 < data.length then p.refuse .range
    else
      .answer
        (p.modMgmt fun m => { m with staging := some { s with buffer := overwrite s.buffer offset data } })
        .ok (beBytes 2 (offset + data.length))

/-- R185. -/
def loadCancelWork (p : Part) (_ : Frame) : Reply := .answer p.endStaging .ok [p.stagingCode]

/-! ## Reading a table (R186) -/

/-- The image of a table in force. -/
def Part.imageOf (p : Part) : TableId → Option (List Byte)
  | .node => p.nodes.table.map (fun t => t.image)
  | .limit => p.session.table.map (fun t => t.image)
  | .budget => p.budget.table.map (fun t => t.image)
  | .tariff => p.meter.tariff.map (fun t => t.image)
  | .heat => p.heat.table.map (fun t => t.image)
  | .insulation => p.monitor.table.map (fun t => t.image)

/-- R186. -/
def readTableWork (p : Part) (c : Frame) : Reply :=
  let offset := u8 c.payload 4
  match TableId.ofCode (u8 c.payload 3) with
  | none => p.refuse .range
  | some t =>
    match p.imageOf t with
    | none => p.refuse .notFound
    | some img =>
      if img.length ≤ offset then p.refuse .range
      else
        let count := min 24 (img.length - offset)
        .answer p .ok (t.code :: (beBytes 2 img.length ++ beBytes 2 (crc16 img).toNat ++ beBytes 2 offset
          ++ beBytes 1 count ++ slice img offset count))

/-! ## Commits -/

/-- R9: a NODE commit. -/
def Part.commitNode (p : Part) (t : Loaded (List NodeEntry)) : Part :=
  let q := p.modNodes fun _ => { NodeTable.initial with table := some t }
  let q := q.modMeter fun m => { m with inletBase := none, heaterBase := none, cargoBase := none }
  let q := q.modBranches fun e => { e with feedback := none, change := none }
  let q := q.modZones fun c => { c with feedback := none, change := none }
  let q := q.modMonitor fun m => { m with change := none }
  let q := (q.modClamp fun _ => OrderClamp.initial).modBudget fun b => { b with window := [] }
  q.modSession fun s => { s with bandPower := 0 }

/-- A grace that has run for at least a number of seconds. -/
def Part.graceOver (p : Part) (start : Option Nat) (seconds : Nat) : Bool :=
  match start with
  | none => false
  | some t => decide (1000 * seconds ≤ p.now - t)

/-- R71, R84: a LIMIT commit. R81's move is made before the FULL test (log 21). -/
def Part.commitLimit (p : Part) (t : Loaded LimitTable) : Part :=
  let q := p.modSession fun s => { s with table := some t, chargeEnable := t.table.chargeEnable }
  let q := q.modSession fun s => { s with bandPower := q.bandPowerNow }
  let q := q.moveByBand.checkFull
  let q := if q.graceOver q.session.inletGrace t.table.inletGrace then q.terminate .inletStale else q
  q.recomputeDue

/-- R58: a BUDGET commit. -/
def Part.commitBudget (p : Part) (t : Loaded BudgetTable) : Part :=
  (p.modBudget fun b => { b with table := some t }).recomputeDue

/-- R49: a TARIFF commit. -/
def Part.commitTariff (p : Part) (t : Loaded TariffTable) : Part :=
  ((p.modMeter fun m => { m with tariff := some t }).lookUpBand).formBoundary

/-- R99: a HEAT commit. -/
def Part.commitHeat (p : Part) (t : Loaded HeatTable) : Part :=
  let q := p.modHeat fun h => { h with table := some t }
  let q := Part.endBurstsOf .cut (q.overLimit t.table.mode) q
  (q.evalWindows).demandDue

/-- R127, R85: an INSULATION commit. -/
def Part.commitInsulation (p : Part) (t : Loaded InsulationTable) : Part :=
  let q := p.modMonitor fun m => { m with
    table := some t, checkCount := if m.state = .checking then 0 else m.checkCount }
  let q := if q.graceOver q.session.unknownGrace t.table.grace then q.terminate .insulationUnknown else q
  q.settleRequest

/-- The validation of an image, and the commit of one that is valid (R184). -/
def Part.judgeImage (p : Part) (t : TableId) (img : List Byte) : Judged Part :=
  match t with
  | .node => (judgeNode p.chain.address img).map fun x => p.commitNode ⟨img, x⟩
  | .limit => (judgeLimit img).map fun x => p.commitLimit ⟨img, x⟩
  | .budget => (judgeBudget img).map fun x => p.commitBudget ⟨img, x⟩
  | .tariff => (judgeTariff img).map fun x => p.commitTariff ⟨img, x⟩
  | .heat => (judgeHeat img).map fun x => p.commitHeat ⟨img, x⟩
  | .insulation => (judgeInsulation img).map fun x => p.commitInsulation ⟨img, x⟩

/-- The staged image: the buffer's first declared-length bytes. -/
def Staging.image (s : Staging) : List Byte := s.buffer.take s.length

/-- R184: what becomes of a commit after its table has been applied. -/
def Part.settleCommit (p : Part) (s : Staging) : Part :=
  let q := p.endStaging.modMgmt fun m => { m with
    committed := if m.committed.contains s.table then m.committed else m.committed ++ [s.table] }
  (q.raise (.tableCommitted s.table s.length (crc16 s.image))).finish

/-- R184: the image judged at the completion. -/
def Part.judgeStaging (p : Part) (s : Staging) : Reply :=
  if s.table = .insulation ∧ p.locator.active then p.refuse .wrongState
  else if s.length ≠ impliedLength s.table s.buffer then .answer p .tableInvalid [255#8]
  else
    match p.judgeImage s.table s.image with
    | .error k => .answer p .tableInvalid (beBytes 1 k)
    | .ok q => .answer (q.settleCommit s) .ok (s.table.code :: beBytes 2 (crc16 s.image).toNat)

/-- R184: the completion event, with a place free in the answer queue: the LOAD_COMMIT at the head is
answered and leaves. -/
def Part.completeCommit (p : Part) : Part :=
  let q := p.modMgmt fun m => { m with validation := none }
  match p.mgmt.commands, p.mgmt.staging with
  | c :: _, some s => respond c q (q.judgeStaging s)
  | _, _ => q

/-- R184: a LOAD_COMMIT is refused before validation. -/
def Part.commitBarred (p : Part) (s : Staging) : Bool :=
  (s.table == .node && p.mgmt.partState != .held) || (s.table == .insulation && p.locator.active)

/-- The longest a validation takes (R184). -/
def validationBound : Nat := 50

/-- R184: LOAD_COMMIT is refused, or validation begins and holds the head. -/
def loadCommitWork (p : Part) (c : Frame) : Reply :=
  match p.mgmt.staging with
  | none => p.refuse .wrongState
  | some s =>
    if p.commitBarred s then p.refuse .wrongState
    else if (crc16 s.image).toNat ≠ u16 c.payload 3 then p.refuse .checksum
    else .hold (p.modMgmt fun m => { m with validation := some ⟨p.now + validationBound, false⟩ })

end Sys2Proof.Machine
end

