-- ==== Sys2Proof/Machine/Events.lean ====
section
/-! DEFINITION. The meanings of the rows that are not takings of a command: power-on and the reset input, the
two ports, the expiries, the minute tick and the completion of a LOAD_COMMIT. An expiry that is not due does
nothing (log 2); every event ends with the outbound arbiter (R7, log 14). -/

namespace Sys2Proof.Machine

/-- A step acts on the part alone and always answers a next state. -/
def State.after (s : State) (f : Part → Part) : Host.Outcome State Fault Refusal :=
  .next { s with part := f s.part }

/-- An event that acts when its condition holds, followed by the outbound arbiter. -/
def Part.when (p : Part) (due : Bool) (f : Part → Part) : Part := if due then (f p).arbitrate else p

/-! ## Power-on and the reset input (R172) -/

/-- R172, R1: power-on, with the strap pins as read. -/
def execPowerOn (strap : BitVec 2) (s : State) : Host.Outcome State Fault Refusal :=
  s.after fun _ => Part.initial strap none

/-- R172, R1, 10.6: the reset input acts as power-on; a frame in transmission completes it (log 29). -/
def execResetInput (strap : BitVec 2) (s : State) : Host.Outcome State Fault Refusal :=
  s.after fun p => Part.initial strap p.chain.portB

/-! ## Frames at port A -/

/-- R2: a frame arrives at port A, and port B is handed on when it is idle. -/
def execFrameArrival (bytes : List Byte) (s : State) : Host.Outcome State Fault Refusal :=
  s.after fun p => (p.receive bytes).arbitrate

/-! ## The taking of the head command, whichever it is -/

/-- The rule that specifies each command. -/
def workOf : CommandName → Part → Frame → Reply
  | .unknown => unknownWork
  | .status => statusWork
  | .release => releaseWork
  | .sleep => sleepWork
  | .wake => wakeWork
  | .configureMemory => configureMemoryWork
  | .setNoticeMask => setNoticeMaskWork
  | .loadBegin => loadBeginWork
  | .loadData => loadDataWork
  | .loadCommit => loadCommitWork
  | .loadCancel => loadCancelWork
  | .readTable => readTableWork
  | .resetLink => resetLinkWork
  | .resetHeat => resetHeatWork
  | .resetPart => resetPartWork
  | .readBranches => readBranchesWork
  | .setClock => setClockWork
  | .readBudget => readBudgetWork
  | .openSession => openSessionWork
  | .pauseSession => pauseWork
  | .resumeSession => resumeWork
  | .abortSession => abortWork
  | .splitSession => splitWork
  | .sessionStatus => sessionStatusWork
  | .heatNow => heatNowWork
  | .heatStop => heatStopWork
  | .setDeparture => setDepartureWork
  | .cancelDeparture => cancelDepartureWork
  | .readHeat => readHeatWork
  | .clearTrip => clearTripWork
  | .selfCheck => selfCheckWork
  | .readInsulation => readInsulationWork
  | .locateNow => locateNowWork
  | .restoreBranch => restoreBranchWork
  | .readFaults => readFaultsWork
  | .readRecord => readRecordWork
  | .releaseRecords => releaseRecordsWork

/-- The name of the head command. -/
def Part.headName (p : Part) : Option CommandName := p.mgmt.commands.head?.map (fun c => nameOf c.payload)

/-- R177: the head command is taken under its own name. -/
def Part.takeHead (p : Part) : Part :=
  match p.headName with
  | none => p
  | some name => p.takeAs name (workOf name)

/-- R177, R184: a place has come free in the answer queue: a completion that waited for it is taken in the
event, and otherwise the head command. -/
def Part.placeFreed (p : Part) : Part :=
  match p.mgmt.validation with
  | some v => if v.done then p.completeCommit else p
  | none => p.takeHead

/-! ## The end of a transmission -/

/-- The answer queue is full (R179). -/
def Part.answersFull (p : Part) : Bool := decide (8 ≤ p.mgmt.answers.length)

/-- R7, R177: the transmission at port B ends and the arbiter chooses again; when an answer's leaving frees
a place in a full answer queue, the head that waited for it is taken. -/
def Part.endTransmission (p : Part) : Part :=
  let q := (p.modChain fun c => { c with portB := none }).arbitrate
  if p.answersFull && !q.answersFull then q.placeFreed else q

/-- R7. -/
def execTransmissionEnd (s : State) : Host.Outcome State Fault Refusal := s.after Part.endTransmission

/-! ## Staleness (R13) -/

/-- R13: an entry's staleness timer has run for its allowed silence, period × stale limit. -/
def Part.silent (p : Part) (e : NodeEntry) : Bool :=
  let r := p.nodes.runtime.get e.role
  r.state == .live &&
    match r.timer with
    | none => false
    | some t => decide (e.period * e.staleLimit ≤ p.now - t)

/-- A role's staleness expiry is due. -/
def Part.staleDue (p : Part) (role : Role) : Bool :=
  match p.entryOf role with
  | none => false
  | some e => p.silent e

/-- R72, R109: the PACK entry has gone STALE: band power 0 with R81, every burst ends STALE, demand falls. -/
def Part.packLost (p : Part) : Part :=
  (((p.modSession fun s => { s with bandPower := 0 }).moveByBand).endBursts .stale).demandDue

/-- R30, R109: the HEATER entry has gone STALE. The Drive Unit's notices come before the Heating Controller's: the
model's choice, against the order in which the table of R13 names their chapters (log 12). -/
def Part.heaterLost (p : Part) : Part := ((Part.failNode .heater allBranches p).endBursts .stale).demandDue

/-- The reaction of a role's consumers to STALE (the table of R13). -/
def Part.reactStale (p : Part) : Role → Part
  | .gateway => p
  | .inlet => p.inletLost
  | .pack => p.packLost
  | .heater => p.heaterLost
  | .cargo => p.modBudget fun b => { b with window := [] }
  | .converter => p
  | .contactor => Part.failNode .contactor allBranches p
  | .injector => p.injectorLost

/-- R13: an entry goes STALE and its consumers react. -/
def Part.goStale (p : Part) (role : Role) : Part :=
  let q := p.modEntry role fun e => { e with state := .stale, timer := none }
  ((q.raise (.nodeState role ((p.addressOf role).getD 0#8) .live .stale)).reactStale role).finish

/-- R13. -/
def execStalenessExpiry (role : Role) (s : State) : Host.Outcome State Fault Refusal :=
  s.after fun p => p.when (p.staleDue role) fun p => p.goStale role

/-! ## Deadlines -/

/-- A pending change has reached its deadline. -/
def Part.deadlinePassed {α : Type} (p : Part) (w : Option (Awaiting α)) : Bool :=
  match w with
  | none => false
  | some a => decide (a.deadline ≤ p.now)

/-- R28: a branch's pending change reaches its deadline unconfirmed. -/
def execSwitchDeadlineExpiry (b : Branch) (s : State) : Host.Outcome State Fault Refusal :=
  s.after fun p => p.when (p.deadlinePassed (p.branch b).change) fun p => (p.failChange .deadline b).finish

/-- R113: a zone's heat pending change reaches its deadline unconfirmed. -/
def execHeatPendingExpiry (z : Zone) (s : State) : Host.Outcome State Fault Refusal :=
  s.after fun p => p.when (p.deadlinePassed (p.zone z).change) fun p => p.failHeatChange z

/-- R125: the mode pending change reaches its deadline unconfirmed. -/
def execModeDeadlineExpiry (s : State) : Host.Outcome State Fault Refusal :=
  s.after fun p => p.when (p.deadlinePassed p.monitor.change) fun p => p.modeFailed.finish

/-! ## The session's timers -/

/-- The INLET_STALE grace has reached the inlet grace of the LIMIT table in force (R84). -/
def Part.inletGraceDue (p : Part) : Bool :=
  match p.session.table with
  | none => false
  | some t => p.graceOver p.session.inletGrace t.table.inletGrace

/-- R84. -/
def execInletStaleGraceExpiry (s : State) : Host.Outcome State Fault Refusal :=
  s.after fun p => p.when p.inletGraceDue fun p => (p.terminate .inletStale).finish

/-- The INSULATION_UNKNOWN grace has reached the unknown grace of the INSULATION table in force (R85). -/
def Part.unknownGraceDue (p : Part) : Bool :=
  match p.monitor.table with
  | none => false
  | some t => p.graceOver p.session.unknownGrace t.table.grace

/-- R85. -/
def execUnknownGraceExpiry (s : State) : Host.Outcome State Fault Refusal :=
  s.after fun p => p.when p.unknownGraceDue fun p => (p.terminate .insulationUnknown).finish

/-- The duration timer has reached the duration limit (R89). -/
def Part.durationDue (p : Part) : Bool :=
  match p.session.durationLimit with
  | none => false
  | some minutes => p.graceOver p.session.durationStart (60 * minutes)

/-- R89. -/
def execDurationTimerExpiry (s : State) : Host.Outcome State Fault Refusal :=
  s.after fun p => p.when p.durationDue fun p => (p.terminate .duration).finish

/-! ## Bursts and rests -/

/-- A zone is in a timed state whose end time has been reached. -/
def Part.endReached (p : Part) (z : Zone) (st : ZoneState) : Bool :=
  (p.zone z).state == st &&
    match (p.zone z).endTime with
    | none => false
    | some t => decide (t ≤ p.now)

/-- R106: a burst expires: it is extended, or ends EXPIRED. -/
def Part.burstExpires (p : Part) (z : Zone) : Part :=
  match p.heat.table with
  | none => p.endBurst .expired z
  | some t => if p.extends t.table z then p.extendBurst t.table z else p.endBurst .expired z

/-- R106. -/
def execBurstExpiry (z : Zone) (s : State) : Host.Outcome State Fault Refusal :=
  s.after fun p => p.when (p.endReached z .burst) fun p => (p.burstExpires z).finish

/-- R111: a rest expires. -/
def Part.restExpires (p : Part) (z : Zone) : Part :=
  if (p.zone z).demand then p.enterWaiting z
  else p.modZone z fun c => { c with state := .off, endTime := none }

/-- R111. -/
def execRestExpiry (z : Zone) (s : State) : Host.Outcome State Fault Refusal :=
  s.after fun p => p.when (p.endReached z .rest) fun p => (p.restExpires z).finish

/-! ## The clock -/

/-- R45: the second of a valid clock would reach 60. -/
def Part.minuteDue (p : Part) : Bool :=
  match p.meter.clock with
  | none => false
  | some c => decide (59 ≤ c.second) && decide (1000 ≤ p.meter.clockPhase)

/-- R45: the clock's minute counts up. -/
def Part.countMinute (p : Part) : Part :=
  p.modMeter fun m => { m with clock := m.clock.map Clock.nextMinute, clockPhase := m.clockPhase - 1000 }

/-- R175: the departure wake's test, with the list as the tick leaves it. A largest lead of 0 gives none. -/
def Part.departureWakes (p : Part) : Bool :=
  p.mgmt.partState == .dormant &&
    match p.firstToGo, p.heat.table with
    | some toGo, some t => decide (toGo ≤ t.table.largestLead) && decide (0 < t.table.largestLead)
    | _, _ => false

/-- R45, R48, R51, R117, R118, R175: what a minute tick does. -/
def Part.minuteTick (p : Part) : Part :=
  let q := ((p.countMinute.refreshBand).countDownDepartures).evalWindows
  (if q.departureWakes then q.wake .departure else q).finish

/-- R45. -/
def execMinuteTick (s : State) : Host.Outcome State Fault Refusal :=
  s.after fun p => p.when p.minuteDue fun p => p.minuteTick

/-! ## The wake interval -/

/-- R175: the wake interval has run out in DORMANT. -/
def Part.wakeDue (p : Part) : Bool :=
  p.mgmt.partState == .dormant &&
    match p.mgmt.wakeAt with
    | none => false
    | some t => decide (t ≤ p.now)

/-- R175. -/
def execWakeIntervalExpiry (s : State) : Host.Outcome State Fault Refusal :=
  s.after fun p => p.when p.wakeDue fun p => (p.wake .interval).finish

/-! ## The completion of a LOAD_COMMIT (R184) -/

/-- R184: validation is done. The completion is taken, or waits for a place in the answer queue. -/
def Part.validationDone (p : Part) : Part :=
  match p.mgmt.validation with
  | none => p
  | some v =>
    if p.answersFull then p.modMgmt fun m => { m with validation := some { v with done := true } }
    else p.completeCommit

/-- R184. The completion may come at any time after the taking (log 23). -/
def execLoadCommitCompletion (s : State) : Host.Outcome State Fault Refusal :=
  s.after fun p => p.when p.mgmt.validation.isSome fun p => p.validationDone

end Sys2Proof.Machine
end

