-- ==== Sys2Proof/Machine/Takings.lean ====
section
/-! DEFINITION. The meanings of the rows that are takings of the head command (R177, R178): one per command,
each with the rule that specifies its work. -/

namespace Sys2Proof.Machine

/-- The taking of the head command under a name, followed by the outbound arbiter. -/
def State.take (s : State) (name : CommandName) (work : Part → Frame → Reply) :
    Host.Outcome State Fault Refusal :=
  s.after fun p => (p.takeAs name work).arbitrate

/-- R178 steps 1 and before: a command that names none, or is too short. -/
def execUnknownCommand (s : State) : Host.Outcome State Fault Refusal := s.take .unknown unknownWork

/-- R182. -/
def execStatus (s : State) : Host.Outcome State Fault Refusal := s.take .status statusWork

/-- R173. -/
def execRelease (s : State) : Host.Outcome State Fault Refusal := s.take .release releaseWork

/-- R174. -/
def execSleep (s : State) : Host.Outcome State Fault Refusal := s.take .sleep sleepWork

/-- R175. -/
def execWake (s : State) : Host.Outcome State Fault Refusal := s.take .wake wakeWork

/-- R176. -/
def execConfigureMemory (s : State) : Host.Outcome State Fault Refusal := s.take .configureMemory configureMemoryWork

/-- R181. -/
def execSetNoticeMask (s : State) : Host.Outcome State Fault Refusal := s.take .setNoticeMask setNoticeMaskWork

/-- R183. -/
def execLoadBegin (s : State) : Host.Outcome State Fault Refusal := s.take .loadBegin loadBeginWork

/-- R183. -/
def execLoadData (s : State) : Host.Outcome State Fault Refusal := s.take .loadData loadDataWork

/-- R184. -/
def execLoadCommit (s : State) : Host.Outcome State Fault Refusal := s.take .loadCommit loadCommitWork

/-- R185. -/
def execLoadCancel (s : State) : Host.Outcome State Fault Refusal := s.take .loadCancel loadCancelWork

/-- R186. -/
def execReadTable (s : State) : Host.Outcome State Fault Refusal := s.take .readTable readTableWork

/-- R187. -/
def execResetLink (s : State) : Host.Outcome State Fault Refusal := s.take .resetLink resetLinkWork

/-- R187, R123. -/
def execResetHeat (s : State) : Host.Outcome State Fault Refusal := s.take .resetHeat resetHeatWork

/-- R188. -/
def execResetPart (s : State) : Host.Outcome State Fault Refusal := s.take .resetPart resetPartWork

/-- R31. -/
def execReadBranches (s : State) : Host.Outcome State Fault Refusal := s.take .readBranches readBranchesWork

/-- R46. -/
def execSetClock (s : State) : Host.Outcome State Fault Refusal := s.take .setClock setClockWork

/-- R69. -/
def execReadBudget (s : State) : Host.Outcome State Fault Refusal := s.take .readBudget readBudgetWork

/-- R75. -/
def execOpenSession (s : State) : Host.Outcome State Fault Refusal := s.take .openSession openSessionWork

/-- R93. -/
def execPauseSession (s : State) : Host.Outcome State Fault Refusal := s.take .pauseSession pauseWork

/-- R94. -/
def execResumeSession (s : State) : Host.Outcome State Fault Refusal := s.take .resumeSession resumeWork

/-- R95. -/
def execAbortSession (s : State) : Host.Outcome State Fault Refusal := s.take .abortSession abortWork

/-- R96. -/
def execSplitSession (s : State) : Host.Outcome State Fault Refusal := s.take .splitSession splitWork

/-- R97. -/
def execSessionStatus (s : State) : Host.Outcome State Fault Refusal := s.take .sessionStatus sessionStatusWork

/-- R114. -/
def execHeatNow (s : State) : Host.Outcome State Fault Refusal := s.take .heatNow heatNowWork

/-- R116. -/
def execHeatStop (s : State) : Host.Outcome State Fault Refusal := s.take .heatStop heatStopWork

/-- R120. -/
def execSetDeparture (s : State) : Host.Outcome State Fault Refusal := s.take .setDeparture setDepartureWork

/-- R121. -/
def execCancelDeparture (s : State) : Host.Outcome State Fault Refusal := s.take .cancelDeparture cancelDepartureWork

/-- R122. -/
def execReadHeat (s : State) : Host.Outcome State Fault Refusal := s.take .readHeat readHeatWork

/-- R135. -/
def execClearTrip (s : State) : Host.Outcome State Fault Refusal := s.take .clearTrip clearTripWork

/-- R138. -/
def execSelfCheck (s : State) : Host.Outcome State Fault Refusal := s.take .selfCheck selfCheckWork

/-- R141. -/
def execReadInsulation (s : State) : Host.Outcome State Fault Refusal := s.take .readInsulation readInsulationWork

/-- R155. -/
def execLocateNow (s : State) : Host.Outcome State Fault Refusal := s.take .locateNow locateNowWork

/-- R156. -/
def execRestoreBranch (s : State) : Host.Outcome State Fault Refusal := s.take .restoreBranch restoreBranchWork

/-- R157. -/
def execReadFaults (s : State) : Host.Outcome State Fault Refusal := s.take .readFaults readFaultsWork

/-- R168. -/
def execReadRecord (s : State) : Host.Outcome State Fault Refusal := s.take .readRecord readRecordWork

/-- R169. -/
def execReleaseRecords (s : State) : Host.Outcome State Fault Refusal := s.take .releaseRecords releaseRecordsWork

end Sys2Proof.Machine
end

