-- ==== Sys2Proof/Machine/Dispatch.lean ====
section
/-! DEFINITION. The dispatch: one arm per constructor of `Instr`, each one direct call of its meaning. -/

namespace Sys2Proof.Machine

def exec (i : Instr) (s : State) : Host.Outcome State Fault Refusal :=
  match i with
  | .powerOn strap => Sys2Proof.Machine.execPowerOn strap s
  | .resetInput strap => Sys2Proof.Machine.execResetInput strap s
  | .frameArrival bytes => Sys2Proof.Machine.execFrameArrival bytes s
  | .transmissionEnd => Sys2Proof.Machine.execTransmissionEnd s
  | .stalenessExpiry role => Sys2Proof.Machine.execStalenessExpiry role s
  | .switchDeadlineExpiry branch => Sys2Proof.Machine.execSwitchDeadlineExpiry branch s
  | .heatPendingExpiry zone => Sys2Proof.Machine.execHeatPendingExpiry zone s
  | .modeDeadlineExpiry => Sys2Proof.Machine.execModeDeadlineExpiry s
  | .inletStaleGraceExpiry => Sys2Proof.Machine.execInletStaleGraceExpiry s
  | .unknownGraceExpiry => Sys2Proof.Machine.execUnknownGraceExpiry s
  | .durationTimerExpiry => Sys2Proof.Machine.execDurationTimerExpiry s
  | .burstExpiry zone => Sys2Proof.Machine.execBurstExpiry zone s
  | .restExpiry zone => Sys2Proof.Machine.execRestExpiry zone s
  | .minuteTick => Sys2Proof.Machine.execMinuteTick s
  | .wakeIntervalExpiry => Sys2Proof.Machine.execWakeIntervalExpiry s
  | .loadCommitCompletion => Sys2Proof.Machine.execLoadCommitCompletion s
  | .unknownCommand => Sys2Proof.Machine.execUnknownCommand s
  | .status => Sys2Proof.Machine.execStatus s
  | .release => Sys2Proof.Machine.execRelease s
  | .sleep => Sys2Proof.Machine.execSleep s
  | .wake => Sys2Proof.Machine.execWake s
  | .configureMemory => Sys2Proof.Machine.execConfigureMemory s
  | .setNoticeMask => Sys2Proof.Machine.execSetNoticeMask s
  | .loadBegin => Sys2Proof.Machine.execLoadBegin s
  | .loadData => Sys2Proof.Machine.execLoadData s
  | .loadCommit => Sys2Proof.Machine.execLoadCommit s
  | .loadCancel => Sys2Proof.Machine.execLoadCancel s
  | .readTable => Sys2Proof.Machine.execReadTable s
  | .resetLink => Sys2Proof.Machine.execResetLink s
  | .resetHeat => Sys2Proof.Machine.execResetHeat s
  | .resetPart => Sys2Proof.Machine.execResetPart s
  | .readBranches => Sys2Proof.Machine.execReadBranches s
  | .setClock => Sys2Proof.Machine.execSetClock s
  | .readBudget => Sys2Proof.Machine.execReadBudget s
  | .openSession => Sys2Proof.Machine.execOpenSession s
  | .pauseSession => Sys2Proof.Machine.execPauseSession s
  | .resumeSession => Sys2Proof.Machine.execResumeSession s
  | .abortSession => Sys2Proof.Machine.execAbortSession s
  | .splitSession => Sys2Proof.Machine.execSplitSession s
  | .sessionStatus => Sys2Proof.Machine.execSessionStatus s
  | .heatNow => Sys2Proof.Machine.execHeatNow s
  | .heatStop => Sys2Proof.Machine.execHeatStop s
  | .setDeparture => Sys2Proof.Machine.execSetDeparture s
  | .cancelDeparture => Sys2Proof.Machine.execCancelDeparture s
  | .readHeat => Sys2Proof.Machine.execReadHeat s
  | .clearTrip => Sys2Proof.Machine.execClearTrip s
  | .selfCheck => Sys2Proof.Machine.execSelfCheck s
  | .readInsulation => Sys2Proof.Machine.execReadInsulation s
  | .locateNow => Sys2Proof.Machine.execLocateNow s
  | .restoreBranch => Sys2Proof.Machine.execRestoreBranch s
  | .readFaults => Sys2Proof.Machine.execReadFaults s
  | .readRecord => Sys2Proof.Machine.execReadRecord s
  | .releaseRecords => Sys2Proof.Machine.execReleaseRecords s

end Sys2Proof.Machine
end

