-- ==== Sys2Proof/Machine/Timebase.lean ====
section
/-! DEFINITION. What happens with no command waiting: the part's own next event that is due, in a fixed
order (log 3), and with none due the passing of 1 ms on the timebase (log 1). -/

namespace Sys2Proof.Machine

/-- The row under which a command is taken. -/
def CommandName.row : CommandName → Instr
  | .unknown => .unknownCommand
  | .status => .status
  | .release => .release
  | .sleep => .sleep
  | .wake => .wake
  | .configureMemory => .configureMemory
  | .setNoticeMask => .setNoticeMask
  | .loadBegin => .loadBegin
  | .loadData => .loadData
  | .loadCommit => .loadCommit
  | .loadCancel => .loadCancel
  | .readTable => .readTable
  | .resetLink => .resetLink
  | .resetHeat => .resetHeat
  | .resetPart => .resetPart
  | .readBranches => .readBranches
  | .setClock => .setClock
  | .readBudget => .readBudget
  | .openSession => .openSession
  | .pauseSession => .pauseSession
  | .resumeSession => .resumeSession
  | .abortSession => .abortSession
  | .splitSession => .splitSession
  | .sessionStatus => .sessionStatus
  | .heatNow => .heatNow
  | .heatStop => .heatStop
  | .setDeparture => .setDeparture
  | .cancelDeparture => .cancelDeparture
  | .readHeat => .readHeat
  | .clearTrip => .clearTrip
  | .selfCheck => .selfCheck
  | .readInsulation => .readInsulation
  | .locateNow => .locateNow
  | .restoreBranch => .restoreBranch
  | .readFaults => .readFaults
  | .readRecord => .readRecord
  | .releaseRecords => .releaseRecords

/-- A row when a condition holds. -/
def Instr.onlyIf (i : Instr) (due : Bool) : Option Instr := if due then some i else none

/-- The completion of a validation is due: its bound has passed, or it is done and a place is free. -/
def Part.completionDue (p : Part) : Bool :=
  match p.mgmt.validation with
  | none => false
  | some v => if v.done then !p.answersFull else decide (v.bound ≤ p.now)

/-- The taking of the head command, when the head is takeable. -/
def Part.takingDue (p : Part) : Option Instr := if p.takeable then p.headName.map CommandName.row else none

/-- The own events of the part that are due, in the order in which they are taken (log 3). -/
def Part.ownEvents (p : Part) : List (Option Instr) :=
  [p.takingDue, Instr.onlyIf .loadCommitCompletion p.completionDue]
    ++ allRoles.map (fun r => Instr.onlyIf (.stalenessExpiry r) (p.staleDue r))
    ++ allBranches.map
      (fun b => Instr.onlyIf (.switchDeadlineExpiry b) (p.deadlinePassed (p.branch b).change))
    ++ allZones.map (fun z => Instr.onlyIf (.heatPendingExpiry z) (p.deadlinePassed (p.zone z).change))
    ++ [Instr.onlyIf .modeDeadlineExpiry (p.deadlinePassed p.monitor.change),
      Instr.onlyIf .inletStaleGraceExpiry p.inletGraceDue,
      Instr.onlyIf .unknownGraceExpiry p.unknownGraceDue,
      Instr.onlyIf .durationTimerExpiry p.durationDue]
    ++ allZones.map (fun z => Instr.onlyIf (.burstExpiry z) (p.endReached z .burst))
    ++ allZones.map (fun z => Instr.onlyIf (.restExpiry z) (p.endReached z .rest))
    ++ [Instr.onlyIf .minuteTick p.minuteDue, Instr.onlyIf .wakeIntervalExpiry p.wakeDue]

/-- The part's own next event, if one is due. -/
def Part.ownEvent (p : Part) : Option Instr := p.ownEvents.findSome? id

/-- R45: 1 ms of a valid clock. The second that would reach 60 waits for its minute tick. -/
def Metering.tick (m : Metering) : Metering :=
  match m.clock with
  | none => m
  | some c =>
    if 1000 ≤ m.clockPhase + 1 ∧ c.second < 59 then
      { m with clock := some { c with second := c.second + 1 }, clockPhase := m.clockPhase + 1 - 1000 }
    else { m with clockPhase := m.clockPhase + 1 }

/-- 1 ms on the timebase. -/
def Part.tick (p : Part) : Part := { p with now := p.now + 1, meter := p.meter.tick }

/-- A step with no command waiting. -/
def idle (s : State) : Host.Outcome State Fault Refusal :=
  match s.part.ownEvent with
  | some i => exec i s
  | none => .next { s with part := s.part.tick }

end Sys2Proof.Machine
end

