-- ==== Sys2Proof/Safety.lean ====
section
/-! DEFINITION. What counts as a safe part, in the terms claims use: the switches follow the branch rule, the
draw limit holds every power stage, the energy counters balance, the grants lie within the free power, and no
queue exceeds its capacity. -/

namespace Sys2Proof.Machine

/-- R21, R23: every branch is commanded as the branch rule decides, and the safe line follows MAIN. -/
def Part.switchesDecided (p : Part) : Prop :=
  (∀ b, (p.branch b).commanded = p.shouldClose b) ∧ p.drive.safeLine = (p.branch .main).commanded

/-- R82, R18: the draw limit is the figure that state, grants and reservation give, and neither target's last
forwarded value lies above its target limit. -/
def Part.drawHeld (p : Part) : Prop :=
  p.session.drawLimit = p.drawLimitNow
    ∧ (∀ v, p.clamp.converter = some v → v ≤ p.converterLimit)
    ∧ (∀ v, p.clamp.inlet = some v → v ≤ p.inletLimit)

/-- R44: BILLED + UNBILLED + REJECTED equals INLET_SEEN. -/
def Metering.balanced (m : Metering) : Prop := m.billed + m.unbilled + m.rejected = m.inletSeen

/-- R62: the grants together lie within the available power less the cargo reservation. -/
def Part.grantsWithin (p : Part) : Prop :=
  p.budget.heatGrant + p.budget.chargeGrant ≤ p.budget.available - p.budget.reservation

/-- R24: no two waiting drives have the same node and function. -/
def singleDrives (q : List Drive) : Prop := q.Pairwise (fun a b => a.sameFunction b = false)

/-- R180: the notice queue lies within its capacity. -/
def Part.noticesFit (p : Part) : Prop := p.mgmt.notices.length ≤ p.noticeCapacity

/-- R6, R177, R179, R180, R24: no queue exceeds its capacity, and each drive function waits at most once. -/
def Part.queuesWithin (p : Part) : Prop :=
  p.chain.fwd.length ≤ 8 ∧ p.mgmt.commands.length ≤ 8 ∧ p.mgmt.answers.length ≤ 8 ∧ p.noticesFit
    ∧ singleDrives p.drive.queue

/-- A part in which all of these hold. -/
def Part.safe (p : Part) : Prop :=
  p.switchesDecided ∧ p.drawHeld ∧ p.meter.balanced ∧ p.grantsWithin ∧ p.queuesWithin

/-! ## The head command as a claim names it -/

/-- R177, R178: the head of the command queue is a command of a name, with `rest` behind it, that is taken and
passes every gate before its own rule: no validation holds the head, the answer queue has a place, the payload
has the length of 11.3, and the part state lets the command through. -/
structure Part.Admits (p : Part) (name : CommandName) (c : Frame) (rest : List Frame) : Prop where
  queued : p.mgmt.commands = c :: rest
  unheld : p.mgmt.validation = none
  place : p.mgmt.answers.length < 8
  named : nameOf c.payload = name
  fits : lengthOk name c.payload.length = true
  awake : p.mgmt.partState = .dormant → name.takenInDormant = true
  released : p.mgmt.partState = .held → name.takenInHeld = true

/-- The head command `c` has left the command queue, and its answer has joined the answer queue (R177, R179). -/
def Part.answered (p : Part) (c : Frame) (rest : List Frame) (status : Status) (fields : List Byte) : Part :=
  { p with mgmt := { p.mgmt with
      commands := rest
      answers := p.mgmt.answers
        ++ [⟨c.src, byteAt c.payload 0, BitVec.ofNat 16 (u16 c.payload 1), status, fields⟩] } }

/-- The outcome of a taking that answers the head command `c` after effects that leave the part as `after`: the
next state, with port B handed on when it is idle (R7, R177, R179). -/
def State.answers (s : State) (after : Part) (c : Frame) (rest : List Frame) (status : Status)
    (fields : List Byte) : Host.Outcome State Fault Refusal :=
  .next { s with part := (after.answered c rest status fields).arbitrate }

/-- The outcome of an event that leaves the part as `after`: the next state, with port B handed on when it is
idle (R7). -/
def State.leaves (s : State) (after : Part) : Host.Outcome State Fault Refusal :=
  .next { s with part := after.arbitrate }

/-- R2: the four cases in which the check of a frame received whole at port A fails. -/
def failsCheck (bytes : List Byte) : Prop :=
  u16 bytes (6 + u8 bytes 4) ≠ (crc16 (bytes.take (6 + u8 bytes 4))).toNat
    ∨ 32 < u8 bytes 4
    ∨ bytes.length ≠ 8 + u8 bytes 4
    ∨ FrameKind.ofCode (byteAt bytes 2) = none

/-- How a rule examines an image: its parts in order, each with its offending index and its condition. The first part
that breaks its condition gives the index, and an image none of whose parts does is `good`. -/
def judgedInOrder {α : Type} (parts : List (Nat × Prop)) (out good : Judged α) : Prop :=
  (∀ (before : List (Nat × Prop)) (k : Nat) (ok : Prop) (behind : List (Nat × Prop)),
    parts = before ++ (k, ok) :: behind → (∀ x ∈ before, x.2) → ¬ ok → out = .error k)
    ∧ ((∀ x ∈ parts, x.2) → out = good)

end Sys2Proof.Machine
end

