-- ==== Sys2Proof/Certificates/Slice0/Obligations.lean ====
section
/-! DEFINITION. The statements for the provers. A statement about a command that is taken has the hypothesis
`Part.Admits`: the command stands at the head of the queue, nothing holds it, and it passes the gates of R178;
its conclusion is the outcome of `exec`, form by form, with the answer's status and fields. What `Part.finish`
(the end of an event) and `Part.arbitrate` (port B) keep and do is stated on its own. -/

section

open Sys2Proof Sys2Proof.Machine

/-! ## The step -/

/-- Tier 1. A step with a command waiting runs that command on the state with the queue's rest. -/
def Obligations.StepTakesFront : Prop :=
  ∀ (c : Instr) (s : Machine.State), step { s with pending := c :: s.pending } = exec c s

/-- Tier 1. A step with no command waiting takes the part's own next event that is due; with none due 1 ms passes,
and a valid clock counts its second on when 1,000 ms have passed, unless that second would reach 60. The model's
choice: logs 1 and 3. -/
def Obligations.IdleStepTakesOwnEventOrTick : Prop :=
  (∀ (p : Machine.Part) (i : Instr), p.ownEvent = some i → step ⟨p, []⟩ = exec i ⟨p, []⟩)
    ∧ (∀ p : Machine.Part, p.ownEvent = none →
      step ⟨p, []⟩ = .next ⟨{ p with now := p.now + 1, meter := p.meter.tick }, []⟩)
    ∧ (∀ m : Metering, m.clock = none → m.tick = m)
    ∧ (∀ (m : Metering) (c : Clock), m.clock = some c → m.clockPhase + 1 < 1000 →
      m.tick = { m with clockPhase := m.clockPhase + 1 })
    ∧ (∀ (m : Metering) (c : Clock), m.clock = some c → 1000 ≤ m.clockPhase + 1 → c.second < 59 →
      m.tick = { m with clock := some { c with second := c.second + 1 }, clockPhase := m.clockPhase + 1 - 1000 })
    ∧ (∀ (m : Metering) (c : Clock), m.clock = some c → 59 ≤ c.second →
      m.tick = { m with clockPhase := m.clockPhase + 1 })

/-- Tier 1. Every row answers a next state, and none touches the commands that wait. -/
def Obligations.EveryCommandAnswersNext : Prop :=
  ∀ (c : Instr) (s : Machine.State), ∃ p : Machine.Part, exec c s = .next { s with part := p }

/-! ## Invariants -/

/-- Tier 1. The machine after reset is safe, and so is the part after power-on and after the reset input, whatever
frame is in transmission. -/
def Obligations.ResetIsSafe : Prop :=
  State.reset.part.safe ∧ ∀ (strap : BitVec 2) (portB : Option Frame), (Part.initial strap portB).safe

/-- Tier 3. Every step keeps the switches as the branch rule decides them, with the safe line following MAIN. -/
def Obligations.SwitchesStayDecided : Prop :=
  ∀ s t : Machine.State, s.part.switchesDecided → step s = .next t → t.part.switchesDecided

/-- Tier 3. Every step keeps the draw limit at its figure, and no power stage's last forwarded value above its
target limit. -/
def Obligations.DrawLimitStaysHeld : Prop :=
  ∀ s t : Machine.State, s.part.drawHeld → step s = .next t → t.part.drawHeld

/-- Tier 3. Every step keeps BILLED + UNBILLED + REJECTED equal to INLET_SEEN. -/
def Obligations.EnergyCountersBalance : Prop :=
  ∀ s t : Machine.State, s.part.meter.balanced → step s = .next t → t.part.meter.balanced

/-- Tier 3. Every step keeps the grants within the free power. -/
def Obligations.GrantsStayWithinFreePower : Prop :=
  ∀ s t : Machine.State, s.part.grantsWithin → step s = .next t → t.part.grantsWithin

/-- Tier 3. Every step keeps every queue within its capacity, with at most one waiting drive per function. -/
def Obligations.QueuesStayWithinCapacity : Prop :=
  ∀ s t : Machine.State, s.part.queuesWithin → step s = .next t → t.part.queuesWithin

/-! ## Power-on and the reset input -/

/-- Tier 1. What power-on and the reset input leave. The frame in transmission completes under the reset input
(log 29). R172, R1, R8, 1.4, R19, R32, 3.8, R70, R98, R123, R142, R158 and R171 give the values. That the
timebase and the phase of the clock start at 0 is the model's choice (log 1), and the two flags that carry causes to
the end of an event are its own (log 11). -/
def Obligations.PowerOnAndResetInput : Prop :=
  (∀ (strap : BitVec 2) (s : Machine.State),
    exec (.powerOn strap) s = .next { s with part := Part.initial strap none }
      ∧ exec (.resetInput strap) s = .next { s with part := Part.initial strap s.part.chain.portB })
    ∧ ∀ (strap : BitVec 2) (b : Option Frame),
      let p := Part.initial strap b
      p.now = 0
        ∧ p.chain = ⟨BitVec.ofNat 8 (56 + strap.toNat), [], b, false, false⟩
        ∧ p.mgmt = {
          partState := .held, recordSize := 12288, stagingSize := 2048, noticeSize := 2048
          commands := [], answers := [], notices := [], mask := 0x3FFF#16, raised := 0#16, noticeLost := false
          staging := none, validation := none, committed := [], wakeReason := .none, wakeAt := none, outSeq := 0#8 }
        ∧ p.noticeCapacity = 64
        ∧ (∀ t : TableId, p.imageOf t = none)
        ∧ p.nodes.table = none ∧ (∀ role, p.nodes.runtime.get role = ⟨.unseen, none, none, none⟩)
        ∧ p.nodes.inlet = none ∧ p.nodes.pack = none ∧ p.nodes.heater = none ∧ p.nodes.cargo = none
        ∧ p.nodes.converter = none ∧ p.nodes.contactor = none ∧ p.nodes.injector = none
        ∧ (∀ b, p.branch b = ⟨false, false, false, false, false, none, none, false⟩)
        ∧ p.drive.safeLine = false ∧ p.drive.queue = [] ∧ p.clamp = ⟨none, none⟩
        ∧ p.meter = {
          inletBase := none, heaterBase := none, cargoBase := none, cargoPool := 0, heatPool := 0
          inletSeen := 0#48, billed := 0#48, unbilled := 0#48, rejected := 0#48
          clock := none, clockPhase := 0, tariff := none, band := ⟨255#8, 255#8, ⟨0, 0, 0⟩⟩, segment := none }
        ∧ p.budget = {
          table := none, source := .none, available := 0, window := [], reservation := 0
          heatRequest := [], chargeRequest := 0, heatGrant := 0, granted := [], chargeGrant := 0
          basisAvailable := 0, basisReservation := 0, socAbove := false
          freeze := false, overdrawn := false, recomputeDue := false }
        ∧ p.session = {
          table := none, state := .closed, kindExpected := none, kindActual := none, recordNumber := 0, ordinal := 0
          energyTarget := none, tractionEnergy := 0#48, durationLimit := none, stopSoc := none, tailCount := 0
          tags := ⟨0#32, 0#32, 0#32⟩, causes := ⟨false, false, false, false⟩, resume := none, cause := none
          tailTaken := 0, durationStart := none, inletGrace := none, unknownGrace := none
          bandPower := 0, chargeEnable := none, drawLimit := 0 }
        ∧ (∀ z, p.zone z = {
          state := .off, demand := false, effectiveTarget := none, elementPower := none, extensions := 0
          endTime := none, lastEnding := none, heatOn := false, feedback := none, change := none
          mismatch := false })
        ∧ p.heat.waitList = [] ∧ p.heat.burstOrder = [] ∧ p.heat.manual = none ∧ p.heat.departures = []
        ∧ p.heat.table = none ∧ p.heat.preheat = none ∧ p.heat.demandDue = false
        ∧ p.monitor = {
          table := none, state := .off, reason := none, context := .parked, mode := .off, change := none
          tripCount := 0, warnCount := 0, recoverCount := 0, settleTaken := 0, checkCount := 0, latest := none
          tripLatch := false, wakeState := .settling }
        ∧ p.locator = {
          latch := false, inert := false, active := false, cursor := 0, phase := .shedding, sampleCount := 0
          results := List.replicate 7 .notReached, before := 0, last := 0, recordNumber := 0, faults := [] }
        ∧ p.store = {
          areaSize := 12288, head := 0, tail := 0, closed := [], opened := none, nextNumber := 1, borrow := false }

/-! ## Frames at port A -/

/-- Tier 1. R2: a frame that fails the check is discarded with LINK_ERROR set and no other effect; any other frame
is accepted with the fields of its bytes. -/
def Obligations.FailedFrameSetsLinkError : Prop :=
  (∀ (bytes : List Byte) (s : Machine.State), failsCheck bytes →
    exec (.frameArrival bytes) s
      = s.leaves { s.part with chain := { s.part.chain with linkError := true } })
    ∧ ∀ bytes : List Byte, ¬ failsCheck bytes →
      ∃ k, FrameKind.ofCode (byteAt bytes 2) = some k
        ∧ Frame.receive bytes = some ⟨byteAt bytes 0, byteAt bytes 1, k, byteAt bytes 3, byteAt bytes 5,
          (bytes.drop 6).take (u8 bytes 4)⟩

/-- Tier 1. R3: an accepted frame whose source is the part's own address is removed and changes nothing. -/
def Obligations.OwnFrameIsRemoved : Prop :=
  ∀ (bytes : List Byte) (f : Frame) (s : Machine.State), Frame.receive bytes = some f →
    f.src = s.part.chain.address → exec (.frameArrival bytes) s = s.leaves s.part

/-- Tier 1. R4, R5, R10, R15: where an accepted frame from another node goes, by its kind and destination, after
the GATEWAY entry has noted it. -/
def Obligations.AcceptedFramesAreRouted : Prop :=
  (∀ (bytes : List Byte) (f : Frame) (s : Machine.State), Frame.receive bytes = some f →
    f.src ≠ s.part.chain.address →
    let p := s.part.noteGateway f
    let own := f.dst = s.part.chain.address
    exec (.frameArrival bytes) s = s.leaves
      (match f.kind with
      | .command => if own then (if p.acceptsFrom f.src then p.enqueueCommand f else p) else p.forward f
      | .sample => if own then p.examineSample f else (p.examineSample f).forward f
      | .order | .drive =>
        if p.addressOf .contactor = some f.dst then p.raise (.orderRefused f.src f.kind .contactor)
        else if p.addressOf .heater = some f.dst then p.raise (.orderRefused f.src f.kind .heater)
        else if own then p else p.forward f
      | .answer | .notice => if own then p else p.forward f))
    ∧ ∀ (p : Machine.Part) (src : Byte),
      p.acceptsFrom src = true ↔ ∀ e, p.entryOf .gateway = some e → e.address = src

/-- Tier 1. R10, R12: a frame from the GATEWAY address is a used sample of that entry, whatever its kind; a used
sample makes its entry LIVE with sequence, arrival time and timer, and NODE_STATE is raised when it was not LIVE.
In DORMANT no timer starts (R14). -/
def Obligations.UsedFrameMakesEntryLive : Prop :=
  (∀ (p : Machine.Part) (f : Frame), p.noteGateway f
      = match p.entryOf .gateway with
        | none => p
        | some e => if e.address = f.src then p.markUsed e f.seq else p)
    ∧ ∀ (p : Machine.Part) (e : NodeEntry) (seq : Byte),
      let left := (p.nodes.runtime.get e.role).state
      let timer := if p.mgmt.partState = .dormant then none else some p.now
      let q : Machine.Part := { p with nodes := { p.nodes with
        runtime := p.nodes.runtime.set e.role ⟨.live, some seq, some p.now, timer⟩ } }
      p.markUsed e seq = if left = .live then q else q.raise (.nodeState e.role e.address left .live)

/-- Tier 1. R6, R177, R24: what joins the forward FIFO, the command queue and the drive queue, and what happens when
there is no room. A command too short to carry a tag that meets a full queue is removed (log 15). -/
def Obligations.QueueIntake : Prop :=
  (∀ (p : Machine.Part) (f : Frame), p.chain.fwd.length < 8 →
    p.forward f = { p with chain := { p.chain with fwd := p.chain.fwd ++ [f] } })
    ∧ (∀ (p : Machine.Part) (f : Frame), 8 ≤ p.chain.fwd.length →
      p.forward f = { p with chain := { p.chain with linkOverrun := true } })
    ∧ (∀ (p : Machine.Part) (f : Frame), p.mgmt.commands.length < 8 →
      p.enqueueCommand f = { p with mgmt := { p.mgmt with commands := p.mgmt.commands ++ [f] } })
    ∧ (∀ (p : Machine.Part) (f : Frame), 8 ≤ p.mgmt.commands.length → p.mgmt.answers.length < 8 →
      3 ≤ f.payload.length →
      p.enqueueCommand f = { p with mgmt := { p.mgmt with
        answers := p.mgmt.answers
          ++ [⟨f.src, byteAt f.payload 0, BitVec.ofNat 16 (u16 f.payload 1), .queueFull, []⟩] } })
    ∧ (∀ (p : Machine.Part) (f : Frame), 8 ≤ p.mgmt.commands.length →
      (8 ≤ p.mgmt.answers.length ∨ f.payload.length < 3) → p.enqueueCommand f = p)
    ∧ (∀ (p : Machine.Part) (d : Drive), p.nodes.table = none → p.queueDrive d = p)
    ∧ (∀ (p : Machine.Part) (d : Drive), p.nodes.table ≠ none →
      (∀ e ∈ p.drive.queue, e.sameFunction d = false) →
      p.queueDrive d = { p with drive := { p.drive with queue := p.drive.queue ++ [d] } })
    ∧ (∀ (p : Machine.Part) (d e : Drive) (before behind : List Drive), p.nodes.table ≠ none →
      singleDrives p.drive.queue → p.drive.queue = before ++ e :: behind → e.sameFunction d = true →
      p.queueDrive d = { p with drive := { p.drive with queue := before ++ d :: behind } })

/-- Tier 2. R11: which samples are unusable, by role; an unusable or duplicate sample is forwarded as R4 gives and
otherwise has no effect; any other usable sample is used. -/
def Obligations.UnusableOrDuplicateSampleIsNotUsed : Prop :=
  (∀ b : List Byte,
    (readSample .inlet b = none ↔ b.length ≠ 15 ∨ (u8 b 3 ≠ 1 ∧ u8 b 3 ≠ 3))
      ∧ (readSample .pack b = none ↔ b.length ≠ 13 ∨ 100 < u8 b 4)
      ∧ (readSample .heater b = none ↔ b.length ≠ 6)
      ∧ (readSample .cargo b = none ↔ b.length ≠ 7)
      ∧ (readSample .converter b = none ↔ b.length ≠ 5 ∨ 2 < u8 b 4)
      ∧ (readSample .contactor b = none ↔ b.length ≠ 1)
      ∧ (readSample .injector b = none ↔ b.length ≠ 6 ∨ 3 < u8 b 0))
    ∧ ∀ (bytes : List Byte) (f : Frame) (e : NodeEntry) (s : Machine.State), Frame.receive bytes = some f →
      f.src ≠ s.part.chain.address → f.kind = .sample → s.part.entryAt f.src = some e → e.role ≠ .gateway →
      s.part.noteGateway f = s.part →
      let onward (q : Machine.Part) := if f.dst = s.part.chain.address then q else q.forward f
      (readSample e.role f.payload = none ∨ (s.part.nodes.runtime.get e.role).lastSeq = some f.seq →
        exec (.frameArrival bytes) s = s.leaves (onward s.part))
        ∧ ∀ r, readSample e.role f.payload = some r →
          (s.part.nodes.runtime.get e.role).lastSeq ≠ some f.seq →
          exec (.frameArrival bytes) s = s.leaves (onward (s.part.useSample e f.seq r))

/-- Tier 2. R12, R14: a used sample replaces its role's reading and the runtime of its entry alone, and the rest of
the Node Table stays as it was; in DORMANT no timer starts. What each role's sample does before the end of the event.
INLET: energy, then R84, R88, R92: the stopped grace, the judgement of plug, kind and ready, the cut of a tail, the
return of INLET_STALE (log 34), and the plug wake of R175. PACK, R72, R81, R89, R108: band power (a free value where
no entry applies, log 45), the move before FULL (log 21), HOT endings, demand. HEATER: energy first (log 48),
switches, heat-on readings, demand at a return (log 46). CARGO, R59: the window. CONVERTER, R90: FAULT under kind AC.
CONTACTOR: switches. R27, R29, R78: what a switch reading does to its branch and whom it tells, in branch order (log
42), the Locator first (log 28). R113: a heat-on reading. HEAT_ZONE comes in burst order at HOT and in zone order at
mismatches (log 35); with no LIMIT table band power is 0 (log 33). R124, R128 to R131, R133, R136, R137: how an
INJECTOR sample is judged. An echo of the commanded mode confirms it, and a settled one with that echo is counted; a
return queues the mode again before its echo is judged, and takes UNKNOWN to SETTLING before it is counted (log 20).
In CHECKING the self-check reading is judged, in SETTLING samples are counted out, in NORMAL and WARNING the three
counters run and the record's lowest reading follows, and in the other states at most the latest reading is set. A
trip sets the latch, opens every branch, drops the safe line, closes the session with its record, ends the bursts
TRIPPED, abandons the procedure and clears its latch. Model's choices too: the sample that ends UNKNOWN for reason
MODE is not counted (log 19), and the notices of a trip carry the context and the latest reading from before the trip
(log 52). -/
def Obligations.UsedSampleReplacesReadings : Prop :=
  (∀ (e : NodeEntry) (seq : Byte) (r : Reading) (p : Machine.Part),
    (p.mgmt.partState = .dormant → ∀ x, r = .inlet x → x.plugPresent = false) →
    (p.useSample e seq r).nodes =
      let timer := if p.mgmt.partState = .dormant then none else some p.now
      let n : NodeTable := { p.nodes with
        runtime := p.nodes.runtime.set e.role ⟨.live, some seq, some p.now, timer⟩ }
      match r with
      | .inlet x => { n with inlet := some x }
      | .pack x => { n with pack := some x }
      | .heater x => { n with heater := some x }
      | .cargo x => { n with cargo := some x }
      | .converter x => { n with converter := some x }
      | .contactor x => { n with contactor := some x }
      | .injector x => { n with injector := some x })
    ∧ (∀ (e : NodeEntry) (seq : Byte) (r : Reading) (p : Machine.Part),
      let left := (p.nodes.runtime.get e.role).state
      let q := (p.markUsed e seq).setReading r
      let banded : Machine.Part := { q with session := { q.session with bandPower := q.bandPowerNow } }
      let moved := banded.moveByBand.checkFull
      let hot (x : PackReadings) := moved.heat.burstOrder.filter fun z =>
        moved.heat.table.any fun t => decide ((t.table.zones.get z).ceiling ≤ (x.temps.get z).high)
      let cooled (x : PackReadings) := (hot x).foldl (fun (a : Machine.Part) z => a.endBurst .hot z) moved
      let taken : Machine.Part := match r with
        | .inlet x =>
          let u := (q.meterInlet e x).inletReturns x
          if p.mgmt.partState = .dormant ∧ x.plugPresent = true then u.wake .plug else u
        | .pack x => { cooled x with heat := { (cooled x).heat with demandDue := true } }
        | .heater x =>
          let i := x.isolation
          let u := ((((((q.meterHeater e x).takeSwitches [(.zone1, i.z1), (.zone2, i.z2), (.zone3, i.z3),
            (.zone4, i.z4)]).takeHeatOn .z1 x.heatOn.z1).takeHeatOn .z2 x.heatOn.z2).takeHeatOn .z3
              x.heatOn.z3).takeHeatOn .z4 x.heatOn.z4)
          if left = .live then u else { u with heat := { u.heat with demandDue := true } }
        | .cargo x =>
          let u := q.meterCargo e x
          if (q.branch .cargo).quarantine then u
          else { u with budget := { u.budget with
            window := (if u.budget.window.length < 4 then u.budget.window else u.budget.window.drop 1) ++ [x.power] } }
        | .converter x =>
          if x = .fault ∧ p.session.kindActual = some .ac ∧ (p.session.state = .connecting
            ∨ p.session.state = .preheat ∨ p.session.state = .charging ∨ p.session.state = .suspended)
          then q.terminate .converter else q
        | .contactor x =>
          q.takeSwitches [(.main, x.main), (.dcInlet, x.dcInlet), (.converter, x.converter), (.cargo, x.cargo)]
        | .injector x => q.takeInjector x (left == .stale)
      p.useSample e seq r = taken.finish)
    ∧ (∀ p : Machine.Part,
      let figure (t : LimitTable) (r : PackReadings) (last : LimitEntry) : Nat :=
        if last.upper < r.hottest then 0
        else match t.entries.find? fun e => decide (r.coldest ≤ e.upper) with
          | none => Config.unstatedBandPower last.upper r.coldest
          | some e => e.power
      p.bandPowerNow = (match p.session.table, p.livePack with
        | some t, some r => t.table.entries.getLast?.elim 0 (figure t.table r)
        | _, _ => 0)
        ∧ p.moveByBand = (if p.session.state = .preheat ∧ 0 < p.session.bandPower then p.enterSession .charging
          else if p.session.state = .charging ∧ p.session.bandPower = 0 then p.enterSession .preheat else p)
        ∧ p.checkFull = (if (p.session.state = .preheat ∨ p.session.state = .charging)
            ∧ (p.livePack.any fun r => p.stopSoc.any fun x => decide (x ≤ r.soc)) = true then p.terminate .full else p)
        ∧ p.stopSoc = p.session.stopSoc.or (p.session.table.map fun t => t.table.stopSocDefault)
        ∧ ∀ st, st ≠ .ending → p.enterSession st = ({ p with session := { p.session with state := st } } :
          Machine.Part).raise (.sessionState p.session.recordNumber p.session.state st p.session.causes none))
    ∧ (∀ (p : Machine.Part) (x : InletReadings),
      let q : Machine.Part := { p with session := { p.session with inletGrace := none } }
      let judged := if p.session.state = .connecting ∨ p.session.state = .preheat ∨ p.session.state = .charging
          ∨ p.session.state = .suspended then
          if x.plugPresent = false then q.terminate .unplug
          else if p.session.kindActual ≠ some x.kind then q.terminate .wrongInlet
          else if x.ready = false then q.terminate .inletStop else q
        else if x.plugPresent = false ∧ p.session.state = .ending then q.cutTail else q
      p.inletReturns x = judged.removeCause .inletStale)
    ∧ (∀ (p : Machine.Part) (readings : List (Branch × Bool)),
      let took (e : BranchEntry) (x : Bool) : BranchEntry :=
        if x = e.commanded then { e with feedback := some x, change := none, faulty := false }
        else { e with feedback := some x, faulty := e.faulty || e.change.isNone }
      let owns (q : Machine.Part) (b : Branch) : Bool := (q.session.state == .connecting
        || q.session.state == .preheat || q.session.state == .charging || q.session.state == .suspended)
        && q.session.kindActual.any fun k => k.branch == b
      let told (b : Branch) (x : Bool) (q : Machine.Part) : Machine.Part :=
        let e := p.branch b
        if e.change.isSome = true ∧ x = e.commanded then
          let u := q.locateConfirmed b x
          if x = true ∧ u.session.state = .connecting ∧ owns u b = true then
            (u.enterSession (if u.session.bandPower = 0 then .preheat else .charging)).checkFull
          else u
        else if e.change = none ∧ x ≠ e.commanded ∧ e.faulty = false then
          let v := (q.raise (.contactorMismatch b (q.branch b).commanded (some x) .uncommanded)).locateMoved b
          if owns v b = true then v.terminate .contactor else v
        else q
      p.takeSwitches readings = readings.foldl (fun q r => told r.1 r.2 q)
        (readings.foldl (fun (q : Machine.Part) r => q.modBranch r.1 fun e => took e r.2) p))
    ∧ (∀ (p : Machine.Part) (z : Zone) (x : Bool),
      let c := p.zone z
      let kept (d : ZoneContext) : Machine.Part := { p with heat := { p.heat with zones := p.heat.zones.set z d } }
      p.takeHeatOn z x =
        if x = c.heatOn then kept { c with feedback := some x, change := none, mismatch := false }
        else if c.change = none ∧ c.mismatch = false then
          (kept { c with feedback := some x, mismatch := true }).raise (.heatZone z (.mismatch c.heatOn (some x)))
        else kept { c with feedback := some x })
    ∧ (∀ (p : Machine.Part) (r : InjectorReadings) (returned : Bool),
      let again : Machine.Part := if returned then ({ p with monitor := { p.monitor with
          change := some ⟨p.monitor.mode, p.now + 300⟩ } } : Machine.Part).queueDrive (.injectorMode p.monitor.mode)
        else p
      let q : Machine.Part := { again with monitor := { again.monitor with
        change := if r.echo = p.monitor.mode then none else again.monitor.change } }
      let back := if returned = true ∧ p.monitor.state = .unknown then q.enterSettling else q
      (p.monitor.table = none → p.takeInjector r returned = back)
        ∧ ∀ t : Loaded InsulationTable, p.monitor.table = some t → p.takeInjector r returned =
          if r.settled = true ∧ r.echo = back.monitor.mode then back.countedSample t.table r p.locator.latch
          else back)
    ∧ (∀ (p : Machine.Part) (r : InjectorReadings), p.monitor.state = .unknown → r.settled = false →
      let q := p.takeInjector r true
      q.monitor.state = .settling ∧ q.monitor.settleTaken = 0 ∧ q.monitor.tripCount = 0 ∧ q.monitor.warnCount = 0
        ∧ q.monitor.recoverCount = 0 ∧ q.session.unknownGrace = none)
    ∧ ∀ (p : Machine.Part) (t : InsulationTable) (r : InjectorReadings) (latched : Bool),
      let m := p.monitor
      let est := r.resistance
      let c := t.record m.context
      let noted : Machine.Part := { p with monitor := { m with latest := some est } }
      let q := p.countedSample t r latched
      let low := t.expected - t.expected * t.tolerance / 1000
      let high := t.expected + t.expected * t.tolerance / 1000
      let trips := if est < c.trip then m.tripCount + 1 else 0
      let warns := if est < c.warn then m.warnCount + 1 else 0
      let recovers := if c.warn + c.warn / 8 ≤ est then m.recoverCount + 1 else 0
      let warned := m.state = .warning ∨ c.confirm ≤ warns
      (m.state = .off → q = p)
        ∧ (m.state = .faulty ∨ m.state = .tripped ∨ (m.state = .unknown ∧ m.reason ≠ some .mode) → q = noted)
        ∧ (m.state = .unknown → m.reason = some .mode → q = noted.enterSettling)
        ∧ (m.state = .checking → ¬ (low ≤ r.selfCheck ∧ r.selfCheck ≤ high) →
          q = ((p.raise (.selfCheckResult (some .outOfTolerance) m.checkCount (some r.selfCheck) low
            high)).enterMonitor .faulty none).endBursts .unmonitored)
        ∧ (m.state = .checking → low ≤ r.selfCheck → r.selfCheck ≤ high →
          let passed : Machine.Part := { p with monitor := { m with checkCount := m.checkCount + 1 } }
          q = if m.checkCount + 1 < t.samples then passed
            else (passed.raise (.selfCheckResult none (m.checkCount + 1) none low high)).enterSettling)
        ∧ (m.state = .settling →
          q = if m.settleTaken < c.settle then
              { p with monitor := { m with latest := some est, settleTaken := m.settleTaken + 1 } }
            else (noted.enterMonitor .normal none).countedSample t r latched)
        ∧ (m.state = .normal ∨ m.state = .warning →
          (trips < c.confirm →
            q.monitor.tripCount = trips ∧ q.monitor.tripLatch = m.tripLatch
              ∧ (¬ warned → q.monitor.state = .normal ∧ q.monitor.warnCount = warns
                ∧ q.monitor.recoverCount = m.recoverCount ∧ q.monitor.latest = some est)
              ∧ (warned → recovers < c.confirm → q.monitor.state = .warning ∧ q.monitor.warnCount = warns
                ∧ q.monitor.recoverCount = recovers)
              ∧ (warned → c.confirm ≤ recovers → q.monitor.state = .normal ∧ q.monitor.warnCount = 0
                ∧ q.monitor.recoverCount = 0)
              ∧ (p.locator.active = false → latched = false →
                q.store.opened = p.store.opened.map (fun x => { x with lowest := min x.lowest est })
                  ∧ q.locator.latch = (p.locator.latch
                    || (m.state == .normal && decide (c.confirm ≤ warns) && t.autoLocate && !p.locator.inert))))
            ∧ (c.confirm ≤ trips →
              let f := q.finish
              f.monitor.state = .tripped ∧ f.monitor.tripLatch = true ∧ f.monitor.tripCount = 0
                ∧ f.monitor.warnCount = 0 ∧ f.monitor.recoverCount = 0
                ∧ (∀ b, (f.branch b).commanded = false) ∧ f.drive.safeLine = false
                ∧ f.session.state = .closed ∧ f.budget.source = .none
                ∧ f.locator.active = false ∧ f.locator.latch = false
                ∧ (∀ z ∈ p.heat.burstOrder, (p.zone z).state = .burst →
                  (q.zone z).state ≠ .burst ∧ (q.zone z).lastEnding = some .tripped)
                ∧ (∀ x, p.store.opened = some x → p.session.state.running = true →
                  ∃ y ∈ q.store.closed, y.number = x.number ∧ y.lowest = min x.lowest est
                    ∧ y.cause = some .insulation)))

/-! ## Port B -/

/-- Tier 1. R7, R179, R190, R24: with port B idle the oldest frame of the first source that holds one leaves: drive
queue, forward FIFO, answer queue, notice queue. The part's own frames take the outbound sequence number, and an
answer of more than 28 bytes of fields leaves as a chain whose frames but the last carry MORE. Without a NODE table,
which no run meets, a drive leaves to address 0: the model's choice (log 32). -/
def Obligations.ArbiterServesSourcesInOrder : Prop :=
  ∀ p : Machine.Part,
    let own (q : Machine.Part) (dst : Byte) (k : FrameKind) (marks : Byte) (payload : List Byte) : Machine.Part :=
      { q with
        chain := { q.chain with portB := some ⟨p.chain.address, dst, k, p.mgmt.outSeq, marks, payload⟩ }
        mgmt := { q.mgmt with outSeq := p.mgmt.outSeq + 1#8 } }
    (∀ f, p.chain.portB = some f → p.arbitrate = p)
      ∧ (p.chain.portB = none →
        (∀ d rest, p.drive.queue = d :: rest →
          p.arbitrate = own { p with drive := { p.drive with queue := rest } }
            ((p.addressOf d.target).getD 0#8) .drive 0#8 d.payload)
          ∧ (p.drive.queue = [] →
            (∀ f rest, p.chain.fwd = f :: rest → p.arbitrate = p.sendForward f rest)
              ∧ (p.chain.fwd = [] →
                (∀ a rest, p.mgmt.answers = a :: rest →
                  let header := a.code :: (beBytes 2 a.tag.toNat ++ [a.status.code])
                  (a.fields.length ≤ 28 →
                    p.arbitrate = own { p with mgmt := { p.mgmt with answers := rest } } a.dst .answer 0#8
                      (header ++ a.fields))
                    ∧ (28 < a.fields.length →
                      p.arbitrate = own
                        { p with mgmt := { p.mgmt with
                          answers := { a with fields := a.fields.drop 28 } :: rest } }
                        a.dst .answer 2#8 (header ++ a.fields.take 28)))
                  ∧ (p.mgmt.answers = [] →
                    (∀ n rest, p.mgmt.notices = n :: rest →
                      p.arbitrate = own { p with mgmt := { p.mgmt with notices := rest } } n.dst .notice 0#8
                        n.payload)
                      ∧ (p.mgmt.notices = [] → p.arbitrate = p)))))

/-- Tier 1. R7, R177, R184: at the end of a transmission the arbiter chooses again; when an answer's leaving frees
a place in a full answer queue, the completion that waits for it, or else the head command, is taken. -/
def Obligations.TransmissionEndHandsPortBOn : Prop :=
  ∀ s : Machine.State,
    let q : Machine.Part := ({ s.part with chain := { s.part.chain with portB := none } } : Machine.Part).arbitrate
    let freed := 8 ≤ s.part.mgmt.answers.length ∧ q.mgmt.answers.length < 8
    (¬ freed → exec .transmissionEnd s = .next { s with part := q })
      ∧ (freed → q.mgmt.validation = none →
        exec .transmissionEnd s = .next { s with part :=
          match q.mgmt.commands with
          | [] => q
          | c :: _ => q.takeAs (nameOf c.payload) (workOf (nameOf c.payload)) })
      ∧ (∀ v, freed → q.mgmt.validation = some v →
        exec .transmissionEnd s = .next { s with part := if v.done then q.completeCommit else q })

/-- Tier 2. R17: a power order that leaves port B above its target limit is rewritten to the limit and marked
CLAMPED; the value that leaves becomes the last forwarded value, and a waiting clamp drive to that target is
withdrawn. Every other frame leaves unchanged. 11.2: a power order is an ORDER to the CONVERTER entry with function
SETPOINT, or to the INLET entry with function CURRENT_REQUEST, of at least 3 bytes. -/
def Obligations.PowerOrderIsClampedAtDeparture : Prop :=
  (∀ (p : Machine.Part) (f : Frame) (rest : List Frame),
    let q : Machine.Part := { p with chain := { p.chain with fwd := rest } }
    let sent (limit : Nat) : Frame := if limit < u16 f.payload 1 then
        { f with
          marks := f.marks ||| 1#8
          payload := byteAt f.payload 0 :: (beBytes 2 limit ++ f.payload.drop 3) }
      else f
    (p.ordersTo f .converter = true →
      p.sendForward f rest = { q with
        chain := { q.chain with portB := some (sent p.converterLimit) }
        clamp := { q.clamp with converter := some (min p.converterLimit (u16 f.payload 1)) }
        drive := { q.drive with queue := q.drive.queue.filter (fun d => !d.sameFunction (.setpoint 0)) } })
      ∧ (p.ordersTo f .converter = false → p.ordersTo f .inlet = true →
        p.sendForward f rest = { q with
          chain := { q.chain with portB := some (sent p.inletLimit) }
          clamp := { q.clamp with inlet := some (min p.inletLimit (u16 f.payload 1)) }
          drive := { q.drive with queue := q.drive.queue.filter (fun d => !d.sameFunction (.currentRequest 0)) } })
      ∧ (p.ordersTo f .converter = false → p.ordersTo f .inlet = false →
        p.sendForward f rest = { q with chain := { q.chain with portB := some f } }))
    ∧ ∀ (p : Machine.Part) (f : Frame) (target : Role), p.ordersTo f target = true ↔
      f.kind = .order ∧ (∃ e, p.entryOf target = some e ∧ e.address = f.dst) ∧ 3 ≤ f.payload.length
        ∧ ((target = .converter ∧ byteAt f.payload 0 = 0x01#8) ∨ (target = .inlet ∧ byteAt f.payload 0 = 0x02#8))

/-- Tier 1. R16: the two target limits. -/
def Obligations.TargetLimitsFollowDrawLimit : Prop :=
  ∀ p : Machine.Part,
    p.converterLimit = (if 65535 < p.session.drawLimit then 65535 else p.session.drawLimit)
      ∧ ((p.nodes.runtime.get .pack).state ≠ .live ∨ p.nodes.pack = none → p.inletLimit = 0)
      ∧ ∀ r, (p.nodes.runtime.get .pack).state = .live → p.nodes.pack = some r →
        (r.voltage = 0 → p.inletLimit = 0)
          ∧ (r.voltage ≠ 0 → p.inletLimit =
            (if 65535 < p.session.drawLimit * 100 / r.voltage then 65535
              else p.session.drawLimit * 100 / r.voltage))

/-- Tier 1. R180: raising a notice latches its kind whatever the mask; an enabled kind joins the notice queue with
its destination and stamp, or is dropped with NOTICE_LOST when the queue is full. -/
def Obligations.RaisingLatchesAndQueues : Prop :=
  ∀ (p : Machine.Part) (b : NoticeBody),
    let bit := 1#16 <<< b.number
    let m := { p.mgmt with raised := p.mgmt.raised ||| bit }
    let dst := match p.addressOf .gateway with
      | none => 0#8
      | some a => a
    (p.mgmt.mask &&& bit = 0#16 → p.raise b = { p with mgmt := m })
      ∧ (p.mgmt.mask &&& bit ≠ 0#16 → p.mgmt.notices.length < p.mgmt.noticeSize / 32 →
        p.raise b = { p with mgmt := { m with notices := p.mgmt.notices ++ [⟨dst, p.meter.clock, b⟩] } })
      ∧ (p.mgmt.mask &&& bit ≠ 0#16 → p.mgmt.noticeSize / 32 ≤ p.mgmt.notices.length →
        p.raise b = { p with mgmt := { m with noticeLost := true } })

/-! ## Energy and power -/

/-- Tier 2. The Metering Unit. R40: an accepted inlet increment covers cargo first, then heat, and traction takes what
is left; the shares add up to the increment, and both pools are set to 0. R35 to R37: each energy sample moves its
role's base; the increment is the register's advance modulo 2^32, or the register itself under a changed epoch, and is
accepted up to the plausibility limit; both faults set their flags on the OPEN record. R38, R39, R43: where accepted
and rejected increments go. R41, R42: what an attribution writes into the OPEN record and its last segment, or counts
as unbilled. R51 to R54, R165: a change of the band's index forms a boundary; a boundary costs the last segment at the
costing rates and opens the next one, or merges the eighth; closing costs the last segment, writes the close stamp,
trims and locks the record. A 48-bit sum that does not fit is a free value (log 8), and so is the difference where an
energy so overflowed lies below its cost mark (log 50). -/
def Obligations.AttributionDividesIncrement : Prop :=
  (∀ (p : Machine.Part) (e : Nat),
    let c := p.meter.cargoPool
    let h := p.meter.heatPool
    let s := p.sharesOf e
    s.cargo = min c e ∧ s.heat = min h (e - s.cargo) ∧ s.traction = e - s.cargo - s.heat
      ∧ s.packDrawn = (c - s.cargo) + (h - s.heat)
      ∧ s.traction + s.heat + s.cargo = e
      ∧ (p.attribute e).meter.cargoPool = 0 ∧ (p.attribute e).meter.heatPool = 0)
    ∧ (∀ (p : Machine.Part) (e : NodeEntry) (register : Register32) (epoch : Byte),
      let base := match e.role with
        | .inlet => p.meter.inletBase
        | .heater => p.meter.heaterBase
        | .cargo => p.meter.cargoBase
        | _ => none
      let sample : EnergyBase := ⟨register, epoch, p.now⟩
      let n (b : EnergyBase) := if epoch = b.epoch then (register.toNat + 2 ^ 32 - b.register.toNat) % 2 ^ 32
        else register.toNat
      let limit (b : EnergyBase) := e.plausible * max 1 ((p.now - b.time) / e.period)
      (p.judgeMeter e register epoch = match base with
        | none => .baseOnly
        | some b => if n b ≤ limit b then .accepted (n b) else .rejected (n b))
        ∧ p.moveBase e register epoch = { p with
          meter := match e.role with
            | .inlet => { p.meter with inletBase := some sample }
            | .heater => { p.meter with heaterBase := some sample }
            | .cargo => { p.meter with cargoBase := some sample }
            | _ => p.meter
          store := { p.store with opened := p.store.opened.map fun r => { r with flags := { r.flags with
            discontinuity := r.flags.discontinuity || base.any (fun b => epoch != b.epoch)
            implausible := r.flags.implausible || base.any (fun b => decide (limit b < n b)) } } } })
    ∧ (∀ (p : Machine.Part) (e : NodeEntry) (r : InletReadings),
      let q := p.moveBase e r.register r.epoch
      p.meterInlet e r = match p.judgeMeter e r.register r.epoch with
        | .baseOnly => q
        | .accepted n =>
          let a := (q.attribute n).addTraction (q.sharesOf n).traction
          if q.session.state = .ending then a.takeTail n else a
        | .rejected n => { q with meter := { q.meter with
          inletSeen := q.meter.inletSeen + BitVec.ofNat 48 n
          rejected := q.meter.rejected + BitVec.ofNat 48 n } })
    ∧ (∀ (p : Machine.Part) (e : NodeEntry) (r : HeaterReadings),
      let q := p.moveBase e r.register r.epoch
      p.meterHeater e r = match p.judgeMeter e r.register r.epoch with
        | .accepted n => ({ q with meter := { q.meter with
          heatPool := min (q.meter.heatPool + n) 4294967295 } } : Machine.Part).chargeManual n
        | _ => q)
    ∧ (∀ (p : Machine.Part) (e : NodeEntry) (r : CargoReadings),
      let q := p.moveBase e r.register r.epoch
      p.meterCargo e r = match p.judgeMeter e r.register r.epoch with
        | .accepted n => { q with meter := { q.meter with cargoPool := min (q.meter.cargoPool + n) 4294967295 } }
        | _ => q)
    ∧ (∀ (p : Machine.Part) (n : Nat),
      let s := p.sharesOf n
      let m : Metering := { p.meter with
        cargoPool := 0, heatPool := 0, inletSeen := p.meter.inletSeen + BitVec.ofNat 48 n }
      let shared (a : PerAccount Energy) : PerAccount Energy :=
        ⟨addEnergy a.traction s.traction, addEnergy a.heat s.heat, addEnergy a.cargo s.cargo⟩
      (p.store.opened = none →
        p.attribute n = { p with meter := { m with unbilled := m.unbilled + BitVec.ofNat 48 n } })
        ∧ ∀ (r : Record) (before : List Segment) (g : Segment), p.store.opened = some r →
          r.segments = before ++ [g] →
          p.attribute n = { p with
            meter := { m with billed := m.billed + BitVec.ofNat 48 n }
            store := { p.store with opened := some { r with
              inlet := addEnergy r.inlet n
              energy := shared r.energy
              segments := before ++ [{ g with energy := shared g.energy }]
              packDrawn := addEnergy r.packDrawn s.packDrawn } } })
    ∧ (∀ p : Machine.Part,
      let band := activeBand p.meter.tariff p.meter.clock
      let q : Machine.Part := { p with meter := { p.meter with band := band } }
      p.refreshBand = (if band.index = p.meter.band.index then q else q.formBoundary)
        ∧ (p.store.opened = none → p.formBoundary = p ∧ p.closeRecord = p))
    ∧ ∀ (p : Machine.Part) (r : Record) (c : SegmentContext) (before : List Segment) (g : Segment),
      p.store.opened = some r → p.meter.segment = some c → r.segments = before ++ [g] →
      let band := p.meter.band
      let priced (cost : Nat) (energy mark : Energy) (rate : Nat) : Nat :=
        let taken := if mark.toNat ≤ energy.toNat then energy.toNat - mark.toNat
          else Config.unstatedEnergySince energy mark
        min (cost + taken * rate / 1000000) 4294967295
      let costed : Record := { r with cost :=
        ⟨priced r.cost.traction g.energy.traction c.mark.traction c.rates.traction,
          priced r.cost.heat g.energy.heat c.mark.heat c.rates.heat,
          priced r.cost.cargo g.energy.cargo c.mark.cargo c.rates.cargo⟩ }
      (r.segments.length < 8 → p.formBoundary = { p with
        meter := { p.meter with segment := some ⟨⟨0#48, 0#48, 0#48⟩, band.rates⟩ }
        store := { p.store with opened := some { costed with
          segments := r.segments ++ [⟨band.index, band.code, ⟨0#48, 0#48, 0#48⟩⟩] } } })
        ∧ (8 ≤ r.segments.length → p.formBoundary = { p with
          meter := { p.meter with segment := some ⟨g.energy, band.rates⟩ }
          store := { p.store with opened := some { costed with
            segments := before ++ [{ g with index := 254#8 }]
            flags := { r.flags with merged := true } } } })
        ∧ p.closeRecord = { p with
          meter := { p.meter with segment := none }
          store := { p.store with
            closed := p.store.closed ++ [{ costed with closeStamp := p.meter.clock }]
            opened := none
            head := (r.start + (96 + 24 * r.segments.length)) % p.store.areaSize } }

/-- Tier 2. R63, R64, R67: HEAT_FIRST grants heat in the heat order as far as it fits and charge from the rest;
CHARGE_FIRST grants charge up to the floor, then heat, then charge again; the grants add up to at most the power to
grant; under the locate freeze, or with no BUDGET table in force (log 11), nothing is granted. R61: the heat request.
R62: the causes of a recompute, which the end of an event makes when one is met. R65: a recompute ends with CUT the
bursts that its grant does not reach, newest first, but under the freeze or on no source, and grants again. R66, R104:
the hand-over lets the waiting zones that are granted, oldest first, into BURST while the burst limit allows, and a
changed heat request brings one recompute more. BUDGET_OVERDRAWN is raised before the bursts are cut (log 11),
HEAT_ZONE follows the order of the cuts and of the hand-over (log 35), and a waiting zone with no HEAT table in force
asks for 0 (log 33). -/
def Obligations.GrantsFollowOrderMode : Prop :=
  (∀ (asks : List HeatAsk) (charge free : Nat),
    let g := grantHeatFirst asks charge free
    g.asks = grantHeat asks free ∧ g.heat = askedPower g.asks ∧ g.charge = min charge (free - g.heat)
      ∧ g.heat + g.charge ≤ free)
    ∧ (∀ (asks : List HeatAsk) (charge floor free : Nat),
      let g := grantChargeFirst asks charge floor free
      let first := min charge (min floor free)
      g.asks = grantHeat asks (free - first) ∧ g.heat = askedPower g.asks
        ∧ g.charge = first + min (charge - first) (free - first - g.heat) ∧ g.heat + g.charge ≤ free
        ∧ (charge ≤ floor → g.charge = min charge free))
    ∧ (∀ (asks : List HeatAsk) (charge free : Nat),
      grantChargeFirst asks charge 0 free = grantHeatFirst asks charge free)
    ∧ (∀ (a : HeatAsk) (rest : List HeatAsk) (f : Nat), a.power ≤ f →
      grantHeat (a :: rest) f = a :: grantHeat rest (f - a.power))
    ∧ (∀ (a : HeatAsk) (rest : List HeatAsk) (f : Nat), f < a.power → grantHeat (a :: rest) f = [])
    ∧ (∀ f, grantHeat [] f = [])
    ∧ (∀ (p : Machine.Part) (asks : List HeatAsk) (charge : Nat),
      (p.budget.freeze = true ∨ p.budget.table = none → p.grantsFor asks charge = ⟨[], 0, 0⟩)
        ∧ ∀ t, p.budget.freeze = false → p.budget.table = some t →
          (t.table.orderMode = .heatFirst →
            p.grantsFor asks charge = grantHeatFirst asks charge (p.budget.available - p.budget.reservation))
            ∧ (t.table.orderMode = .chargeFirst →
              p.grantsFor asks charge = grantChargeFirst asks charge t.table.chargeFloor
                (p.budget.available - p.budget.reservation)))
    ∧ (∀ p : Machine.Part,
      let asks := p.heat.burstOrder.map (fun z => (⟨z, (p.zone z).elementPower.getD 0, true⟩ : HeatAsk))
        ++ p.heat.waitList.map fun z => ⟨z, p.heat.table.elim 0 fun t => (t.table.zones.get z).power, false⟩
      p.heatAsk = asks)
    ∧ (∀ p : Machine.Part,
      let b : Budget := { p.budget with
        source := p.sourceNow
        socAbove := p.socAboveNow
        available := p.availableOn p.sourceNow
        reservation := p.reservationOn p.sourceNow }
      let holds := (b.source = .ac ∨ b.source = .dc) ∧ b.available ≤ b.reservation
      let marked : Machine.Part := { p with budget := { b with overdrawn := decide holds } }
      let f := if holds ∧ p.budget.overdrawn = false
        then marked.raise (.budgetOverdrawn b.source b.available b.reservation) else marked
      let far (x y : Nat) := ∃ t, p.budget.table = some t ∧ t.table.hysteresis ≤ (x - y) + (y - x)
      let caused := p.budget.recomputeDue = true ∨ b.source ≠ p.budget.source ∨ b.socAbove ≠ p.budget.socAbove
        ∨ (b.available ≠ p.budget.available ∧ far b.available b.basisAvailable)
        ∨ (b.reservation ≠ p.budget.reservation ∧ far b.reservation b.basisReservation)
        ∨ b.available - b.reservation < b.heatGrant + b.chargeGrant
        ∨ p.heatAsk ≠ b.heatRequest ∨ p.chargeAsk ≠ b.chargeRequest
      let entered := f.recompute.enterBursts
      (¬ caused → p.settleBudget = f)
        ∧ (caused → entered.heatAsk = entered.budget.heatRequest → p.settleBudget = entered)
        ∧ (caused → entered.heatAsk ≠ entered.budget.heatRequest → p.settleBudget = entered.recompute))
    ∧ (∀ p : Machine.Part,
      let first := p.grantsFor p.heatAsk p.chargeAsk
      let cut := (p.heat.burstOrder.filter fun z => first.asks.all fun a => a.zone != z).reverse
      let left := if p.budget.freeze = true ∨ p.budget.source = .none then p
        else cut.foldl (fun (q : Machine.Part) z => q.endBurst .cut z) p
      let g := left.grantsFor left.heatAsk left.chargeAsk
      p.recompute = { left with budget := { left.budget with
        heatRequest := left.heatAsk
        chargeRequest := left.chargeAsk
        heatGrant := g.heat
        granted := g.asks.map fun a => a.zone
        chargeGrant := g.charge
        basisAvailable := left.budget.available
        basisReservation := left.budget.reservation
        recomputeDue := false } })
    ∧ (∀ p : Machine.Part, p.heat.table = none → p.enterBursts = p)
    ∧ (∀ (p : Machine.Part) (t : Loaded HeatTable), p.heat.table = some t →
      p.enterBursts = Part.enterFrom t.table p.heat.waitList p)
    ∧ ∀ (p : Machine.Part) (t : HeatTable) (z : Zone) (rest : List Zone),
      let k := t.zones.get z
      let enters := z ∈ p.budget.granted
        ∧ (t.mode = .all ∨ p.heat.burstOrder.length < (if t.mode = .pair then 2 else 1))
      let c : ZoneContext := { p.zone z with
        state := .burst
        elementPower := some k.power
        extensions := 0
        endTime := some (p.now + 1000 * (if k.kind = .short then t.short else t.long))
        heatOn := true
        change := some ⟨true, p.now + 300⟩ }
      let zones := p.heat.zones.set z c
      let begun : Machine.Part := { p with heat := { p.heat with
        zones := zones, waitList := p.heat.waitList.erase z, burstOrder := p.heat.burstOrder ++ [z] } }
      Part.enterFrom t [] p = p
        ∧ (¬ enters → Part.enterFrom t (z :: rest) p = p)
        ∧ (enters → Part.enterFrom t (z :: rest) p = Part.enterFrom t rest
          ((begun.queueDrive (.heatSet (zones.map fun x => x.heatOn))).raise (.heatZone z .start)))

/-! ## The end of an event -/

/-- Tier 2. What the end of an event never changes: time, Chain Port, Node Table, the queues of commands and answers
with the rest of the Management Unit but its notices, the six tables, the clock, the part-wide counters' balance, the
departures, the trip latch, the fault list and the record area. What it establishes: R55 to R57, R60: the source, the
available power, the SOC side and the reservation; R68: the overdrawn latch; R80, R100: the preheat demand and the
effective targets; no recompute and no evaluation of demand left over. Its stages, in the model's own order (log 11):
three rounds of the plug tests and the context, the branch rule, heating, budget, draw limit. R21, R23, R25, R26: the
branch rule, with a 300 ms pending change for each changed branch and one drive to each node that carries one. R82,
R18: the draw limit, with a clamp drive to each target whose limit falls below its last forwarded value, the
CONVERTER's first (log 41). R76 to R78, R90: the plug tests of PLUG_WAIT, where the plug's kind counts only while
INLET is LIVE (log 37), and the entry into CONNECTING. R126, R124, R128: the context in force with its mode. R101 to
R103: when demand is evaluated, each zone's flag, and the moves between OFF and WAITING. The figures of absent tables
are 0 or absent (log 33). -/
def Obligations.EventEndKeeps : Prop :=
  (∀ p : Machine.Part,
    let q := p.finish
    q.now = p.now ∧ q.chain = p.chain ∧ q.nodes = p.nodes
      ∧ { q.mgmt with notices := p.mgmt.notices, raised := p.mgmt.raised, noticeLost := p.mgmt.noticeLost } = p.mgmt
      ∧ (∀ t : TableId, q.imageOf t = p.imageOf t)
      ∧ q.meter.clock = p.meter.clock ∧ q.meter.band = p.meter.band
      ∧ (q.meter.balanced ↔ p.meter.balanced)
      ∧ q.heat.manual = p.heat.manual ∧ q.heat.departures = p.heat.departures
      ∧ q.monitor.tripLatch = p.monitor.tripLatch ∧ q.locator.faults = p.locator.faults
      ∧ q.store.areaSize = p.store.areaSize ∧ q.store.borrow = p.store.borrow
      ∧ q.budget.window = p.budget.window)
    ∧ (∀ p : Machine.Part,
      let q := p.finish
      let b := q.budget
      let largest := b.window.foldl max 0
      let above (t : BudgetTable) := q.livePack.any fun r => decide (t.socFloor ≤ r.soc)
      b.source = (if q.mgmt.partState ≠ .run ∨ q.monitor.state = .tripped then .none
          else if (q.branch .converter).commanded then .ac
          else if (q.branch .dcInlet).commanded then .dc else .pack)
        ∧ b.socAbove = b.table.any (fun t => above t.table)
        ∧ b.available = (match b.table, b.source with
          | none, _ => 0
          | some _, .none => 0
          | some t, .pack => if above t.table then t.table.packHeatAllowance else 0
          | some t, .ac => q.liveInlet.elim 0 fun r =>
            r.phaseCurrent * r.phases * r.lineVoltage * t.table.efficiency / 100000 - t.table.margin
          | some t, .dc => q.liveInlet.elim 0 fun r => r.dcOffer - t.table.margin)
        ∧ b.reservation = (if b.source = .ac ∨ b.source = .dc
          then b.table.elim 0 fun t => largest + t.table.cargoMargin else 0)
        ∧ b.overdrawn = decide ((b.source = .ac ∨ b.source = .dc) ∧ b.available ≤ b.reservation)
        ∧ b.recomputeDue = false ∧ q.heat.demandDue = false
        ∧ q.heat.preheat = (if q.session.state = .preheat then q.session.chargeEnable else none)
        ∧ ∀ z,
          let zoneTarget := q.heat.table.map fun t => (t.table.zones.get z).target
          let wanted (x : Option Int) := x.elim zoneTarget some
          let window := q.heat.departures.foldl (fun t d => if d.active then higher t (wanted d.target) else t) none
          let manual := q.heat.manual.bind fun m => if m.mask.get z then wanted m.target else none
          (q.zone z).effectiveTarget = higher (higher q.heat.preheat window) manual)
    ∧ (∀ p : Machine.Part,
      let round (q : Machine.Part) := q.plugWait.examineContext
      p.finish = (round (round (round p))).decideBranches.settleHeat.settleBudget.settleDraw)
    ∧ (∀ p : Machine.Part,
      let closed (b : Branch) : Bool := ((p.branch b).claimPart || (p.branch b).claimSession) && !(p.branch b).shed
        && !(p.branch b).quarantine && p.mgmt.partState == .run && p.monitor.state != .tripped
      let entry (b : Branch) : BranchEntry := if closed b = (p.branch b).commanded then p.branch b
        else { p.branch b with commanded := closed b, change := some ⟨closed b, p.now + 300⟩ }
      let changes (bs : List Branch) := ∃ b ∈ bs, closed b ≠ (p.branch b).commanded
      let set : Machine.Part := { p with drive := { p.drive with
        branches := ⟨entry .main, entry .dcInlet, entry .converter, entry .cargo, entry .zone1, entry .zone2,
          entry .zone3, entry .zone4⟩
        safeLine := closed .main } }
      let switched (q : Machine.Part) : Prop :=
        (changes [.main, .dcInlet, .converter, .cargo] → q = set.queueDrive
          (.switchSet (closed .main) (closed .dcInlet) (closed .converter) (closed .cargo)))
          ∧ (¬ changes [.main, .dcInlet, .converter, .cargo] → q = set)
      ∀ q, switched q →
        (changes [.zone1, .zone2, .zone3, .zone4] → p.decideBranches = q.queueDrive
          (.isolationSet ⟨closed .zone1, closed .zone2, closed .zone3, closed .zone4⟩))
          ∧ (¬ changes [.zone1, .zone2, .zone3, .zone4] → p.decideBranches = q))
    ∧ (∀ p : Machine.Part,
      let limited : Machine.Part := { p with session := { p.session with
        drawLimit := if p.session.state = .preheat ∨ p.session.state = .charging
          then p.budget.chargeGrant + p.budget.heatGrant + p.budget.reservation else 0 } }
      let power := limited.converterLimit
      let current := limited.inletLimit
      let told := if p.clamp.converter.any (fun last => decide (power < last)) then
          ({ limited with clamp := { limited.clamp with converter := some power } } : Machine.Part).queueDrive
            (.setpoint power)
        else limited
      p.settleDraw = if p.clamp.inlet.any (fun last => decide (current < last)) then
          ({ told with clamp := { told.clamp with inlet := some current } } : Machine.Part).queueDrive
            (.currentRequest current)
        else told)
    ∧ (∀ p : Machine.Part, p.session.state ≠ .plugWait → p.plugWait = p)
    ∧ (∀ (p : Machine.Part) (k : Kind), p.session.state = .plugWait → p.session.kindExpected = some k →
      let ac := (p.branch .converter).quarantine
      let dc := (p.branch .dcInlet).quarantine
      let shut := match k with
        | .ac => ac
        | .dc => dc
        | .any => ac && dc
      let ready := p.session.causes = ⟨false, false, false, false⟩ ∧ p.locator.active = false
        ∧ (p.monitor.state = .normal ∨ p.monitor.state = .warning)
      (p.liveInlet = none → p.plugWait = if shut then p.terminate .quarantined else p)
        ∧ ∀ r, p.liveInlet = some r →
          let wrong := (k = .ac ∧ r.kind = .dc) ∨ (k = .dc ∧ r.kind = .ac)
          let gone := (p.branch (if r.kind = .ac then .converter else .dcInlet)).quarantine
          (r.plugPresent = true → wrong → p.plugWait = p.terminate .wrongInlet)
            ∧ (¬ (r.plugPresent = true ∧ wrong) →
              ((r.plugPresent = true ∧ gone = true) ∨ shut = true → p.plugWait = p.terminate .quarantined)
                ∧ (¬ ((r.plugPresent = true ∧ gone = true) ∨ shut = true) →
                  (r.plugPresent = true → r.ready = true → ready → p.plugWait = p.enterConnecting r.kind)
                    ∧ (¬ (r.plugPresent = true ∧ r.ready = true ∧ ready) → p.plugWait = p))))
    ∧ (∀ (p : Machine.Part) (k : ChargeKind),
      let named : Machine.Part := { p with
        session := { p.session with kindActual := some k, state := .connecting }
        store := { p.store with opened := p.store.opened.map fun r => { r with kind := k.toKind } } }
      let told := named.raise (.sessionState p.session.recordNumber p.session.state .connecting p.session.causes none)
      let claimed := told.modBranch (if k = .ac then .converter else .dcInlet) fun e => { e with claimSession := true }
      p.enterConnecting k = if k = .ac ∧ (p.nodes.runtime.get .converter).state = .live
        ∧ p.nodes.converter = some .fault then claimed.terminate .converter else claimed)
    ∧ (∀ p : Machine.Part,
      let closed (b : Branch) := ((p.branch b).claimPart || (p.branch b).claimSession) && !(p.branch b).quarantine
        && p.mgmt.partState == .run && p.monitor.state != .tripped
      let c := if closed .converter then Context.ac
        else if closed .dcInlet then
          if p.nodes.inlet.any fun r => r.monitorActive then .dcListen else .dcActive
        else .parked
      let mode := match p.monitor.state with
        | .off => InjectorMode.off
        | .checking => .selfcheck
        | _ => if c = .dcListen then .listen else .active
      let moved : Machine.Part := { p with monitor := { p.monitor with context := c } }
      let led := if mode = p.monitor.mode then moved
        else ({ moved with monitor := { moved.monitor with
          mode := mode, latest := none, change := some ⟨mode, p.now + 300⟩ } } : Machine.Part).queueDrive
            (.injectorMode mode)
      p.examineContext =
        if c = p.monitor.context then p
        else if p.monitor.state = .settling ∨ p.monitor.state = .normal ∨ p.monitor.state = .warning then
          (led.abandon .context).enterSettling
        else led)
    ∧ (∀ p : Machine.Part,
      let placed : Machine.Part := { p with heat := { p.heat with
        preheat := if p.session.state = .preheat then p.session.chargeEnable else none } }
      let aim (z : Zone) := placed.targetNow z
      let zone (z : Zone) : ZoneContext := { p.zone z with effectiveTarget := aim z }
      let aimed : Machine.Part := { placed with heat := { placed.heat with
        zones := ⟨zone .z1, zone .z2, zone .z3, zone .z4⟩, demandDue := false } }
      let due := p.heat.demandDue = true ∨ ∃ z, (p.zone z).effectiveTarget ≠ aim z
      (due → p.settleHeat = aimed.evalDemand) ∧ (¬ due → p.settleHeat = aimed))
    ∧ ∀ p : Machine.Part,
      let q := p.evalDemand
      let held := p.mgmt.partState ≠ .run ∨ (p.nodes.runtime.get .heater).state ≠ .live ∨ p.locator.active = true
        ∨ p.monitor.state = .tripped ∨ p.monitor.state = .unknown ∨ p.monitor.state = .faulty
        ∨ p.monitor.state = .checking
      (∀ z,
        let c := p.zone z
        (held ∨ c.state = .quarantined ∨ p.livePack = none ∨ c.effectiveTarget = none ∨ p.heat.table = none →
          (q.zone z).demand = false)
          ∧ (∀ (r : PackReadings) (target : Int) (t : Loaded HeatTable), ¬ held → c.state ≠ .quarantined →
            p.livePack = some r → c.effectiveTarget = some target → p.heat.table = some t →
            let x := r.temps.get z
            let k := t.table.zones.get z
            (q.zone z).demand = if k.ceiling ≤ x.high then false
              else if x.low < target - k.hysteresis then true
              else if target ≤ x.low then false else c.demand)
          ∧ (q.zone z).state = (if c.state = .off ∧ (q.zone z).demand = true then .waiting
            else if c.state = .waiting ∧ (q.zone z).demand = false then .off else c.state))
        ∧ q.heat.waitList = [Zone.z1, .z2, .z3, .z4].foldl (fun w z =>
          if (p.zone z).state = .off ∧ (q.zone z).demand = true then w ++ [z]
          else if (p.zone z).state = .waiting ∧ (q.zone z).demand = false then w.erase z else w) p.heat.waitList

/-! ## Expiries -/

/-- Tier 2. R13, R30, R72, R84, R109, R136, R59: a LIVE entry whose allowed silence has passed goes STALE, its
readings and last sequence kept; NODE_STATE is raised and the role's consumers react. INLET, R84, R92: INLET_STALE
with its grace, or the cut of a tail. INJECTOR, R136, R131: the entry into UNKNOWN, or the latest reading absent.
Where several branches of one node fail together, they are told in branch order (log 42), and at HEATER's staleness
the Drive Unit's notices come before the Heating Controller's (log 12): the model's choices. -/
def Obligations.StalenessExpiryMakesEntryStale : Prop :=
  (∀ (role : Role) (e : NodeEntry) (since : Nat) (s : Machine.State),
    let p := s.part
    let left := p.nodes.runtime.get role
    let stale : NodeTable := { p.nodes with
      runtime := p.nodes.runtime.set role { left with state := .stale, timer := none } }
    p.entryOf role = some e → left.state = .live → left.timer = some since →
    e.period * e.staleLimit ≤ p.now - since →
    let q : Machine.Part := ({ p with nodes := stale } : Machine.Part).raise (.nodeState role e.address .live .stale)
    let r := match role with
      | .gateway | .converter => q
      | .inlet => q.inletLost
      | .pack => (((q.modSession fun c => { c with bandPower := 0 }).moveByBand).endBursts .stale).demandDue
      | .heater => ((Part.failNode .heater allBranches q).endBursts .stale).demandDue
      | .cargo => { q with budget := { q.budget with window := [] } }
      | .contactor => Part.failNode .contactor allBranches q
      | .injector => q.injectorLost
    exec (.stalenessExpiry role) s = s.leaves r.finish ∧ r.finish.nodes = stale)
    ∧ (∀ p : Machine.Part,
      let connected := p.session.state = .connecting ∨ p.session.state = .preheat ∨ p.session.state = .charging
        ∨ p.session.state = .suspended
      let held := p.addCause .inletStale
      (connected → p.inletLost = { held with session := { held.session with inletGrace := some p.now } })
        ∧ (¬ connected → p.inletLost = p.cutTail))
    ∧ (∀ p : Machine.Part,
      let judging := p.monitor.state = .settling ∨ p.monitor.state = .normal ∨ p.monitor.state = .warning
      (judging → p.injectorLost = p.enterUnknown .stale)
        ∧ (¬ judging → p.injectorLost = { p with monitor := { p.monitor with latest := none } }))
    ∧ ∀ (p : Machine.Part) (e : Ending),
      p.endBursts e = p.heat.burstOrder.foldl (fun (q : Machine.Part) z => q.endBurst e z) p

/-- Tier 1. R28: a pending switch change that reaches its deadline fails: FAULTY, CONTACTOR_MISMATCH with reason
DEADLINE, and the owning jobs are told, the Locator first (log 28) and with the state that the change awaited. A
Locator that was restoring the session's own branch has the session terminated before it goes on (log 28). -/
def Obligations.SwitchDeadlineFailsChange : Prop :=
  ∀ (b : Branch) (w : Awaiting Bool) (s : Machine.State),
    let p := s.part
    let e := p.branch b
    e.change = some w → w.deadline ≤ p.now →
    exec (.switchDeadlineExpiry b) s = s.leaves
      (((((p.modBranch b fun e => { e with change := none, faulty := true }).raise
        (.contactorMismatch b e.commanded e.feedback .deadline)).locateFailed b w.awaited).reportContactor b).finish)

/-- Tier 1. R113: a heat pending change that reaches its deadline fails: the mismatch flag is set and HEAT_ZONE is
raised. That the notice carries the commanded state and the last feedback is the model's choice (log 47). -/
def Obligations.HeatPendingExpirySetsMismatch : Prop :=
  ∀ (z : Zone) (w : Awaiting Bool) (s : Machine.State),
    let p := s.part
    let c := p.zone z
    c.change = some w → w.deadline ≤ p.now →
    exec (.heatPendingExpiry z) s = s.leaves
      ((p.modZone z fun c => { c with change := none, mismatch := true }).raise
        (.heatZone z (.mismatch c.heatOn c.feedback)))

/-- Tier 1. R125: the effect of a failed mode change, by monitor state. R136, R85: the entry into UNKNOWN sets the
counts to 0, queues the mode again, adds INSULATION_UNKNOWN with its grace to a session in CONNECTING..SUSPENDED, ends
every burst UNMONITORED and abandons a procedure; for reason STALE the latest reading is absent. R128: the entry into
SETTLING, from UNKNOWN with INSULATION_UNKNOWN removed and its grace stopped. R132, R124, R144: each change of state
raises INSULATION_STATE, with a changed mode queued, the inert flag cleared at NORMAL, and demand to be evaluated at
the end of the event (log 11). -/
def Obligations.ModeDeadlineByMonitorState : Prop :=
  (∀ (w : Awaiting InjectorMode) (s : Machine.State),
    let p := s.part
    s.part.monitor.change = some w → w.deadline ≤ p.now →
    let q : Machine.Part := { p with monitor := { p.monitor with change := none } }
    (p.monitor.state = .settling ∨ p.monitor.state = .normal ∨ p.monitor.state = .warning →
      exec .modeDeadlineExpiry s = s.leaves (q.enterUnknown .mode).finish)
      ∧ (∀ t, p.monitor.state = .checking → p.monitor.table = some t →
        exec .modeDeadlineExpiry s = s.leaves
          ((((q.raise (.selfCheckResult (some .mode) p.monitor.checkCount none t.table.acceptBand.1
            t.table.acceptBand.2)).enterMonitor .faulty none).endBursts .unmonitored).finish))
      ∧ (p.monitor.state = .unknown ∨ p.monitor.state = .off ∨ p.monitor.state = .faulty
          ∨ p.monitor.state = .tripped →
        exec .modeDeadlineExpiry s = s.leaves q.finish))
    ∧ (∀ (p : Machine.Part) (reason : UnknownReason),
      let connected := p.session.state = .connecting ∨ p.session.state = .preheat ∨ p.session.state = .charging
        ∨ p.session.state = .suspended
      let cleared : Machine.Part := { p with monitor := { p.monitor with
        tripCount := 0, warnCount := 0, recoverCount := 0, settleTaken := 0
        latest := if reason = .stale then none else p.monitor.latest } }
      let entered := cleared.enterMonitor .unknown (some reason)
      let queued := ({ entered with monitor := { entered.monitor with
        change := some ⟨entered.monitor.mode, p.now + 300⟩ } } : Machine.Part).queueDrive
          (.injectorMode entered.monitor.mode)
      let lost := queued.addCause .insulationUnknown
      let graced : Machine.Part := { lost with session := { lost.session with unknownGrace := some p.now } }
      (connected → p.enterUnknown reason = (graced.endBursts .unmonitored).abandon .unknown)
        ∧ (¬ connected → p.enterUnknown reason = (queued.endBursts .unmonitored).abandon .unknown))
    ∧ (∀ p : Machine.Part,
      let cleared : Machine.Part := { p with monitor := { p.monitor with
        tripCount := 0, warnCount := 0, recoverCount := 0, settleTaken := 0 } }
      let entered := cleared.enterMonitor .settling none
      let stopped : Machine.Part := { entered with session := { entered.session with unknownGrace := none } }
      (p.monitor.state = .settling → p.enterSettling = cleared)
        ∧ (p.monitor.state = .unknown → p.enterSettling = stopped.removeCause .insulationUnknown)
        ∧ (p.monitor.state ≠ .settling → p.monitor.state ≠ .unknown → p.enterSettling = entered))
    ∧ ∀ (p : Machine.Part) (st : MonitorState) (reason : Option UnknownReason),
      let mode := match st with
        | .off => InjectorMode.off
        | .checking => .selfcheck
        | _ => if p.monitor.context = .dcListen then .listen else .active
      let moved : Machine.Part := { p with monitor := { p.monitor with state := st, reason := reason } }
      let led := if mode = p.monitor.mode then moved
        else ({ moved with monitor := { moved.monitor with
          mode := mode, latest := none, change := some ⟨mode, p.now + 300⟩ } } : Machine.Part).queueDrive
            (.injectorMode mode)
      let told := led.raise (.insulationState p.monitor.state st p.monitor.context led.monitor.latest reason)
      p.enterMonitor st reason = { told with
        locator := { told.locator with inert := told.locator.inert && st != .normal }
        heat := { told.heat with demandDue := true } }

/-- Tier 1. R84, R85, R89: each session timer that reaches its limit terminates the session with its cause. -/
def Obligations.SessionTimersTerminate : Prop :=
  ∀ (s : Machine.State) (since : Nat),
    let p := s.part
    (∀ t : Loaded LimitTable, p.session.table = some t → p.session.inletGrace = some since →
      1000 * t.table.inletGrace ≤ p.now - since →
      exec .inletStaleGraceExpiry s = s.leaves (p.terminate .inletStale).finish)
      ∧ (∀ t : Loaded InsulationTable, p.monitor.table = some t → p.session.unknownGrace = some since →
        1000 * t.table.grace ≤ p.now - since →
        exec .unknownGraceExpiry s = s.leaves (p.terminate .insulationUnknown).finish)
      ∧ (∀ minutes, p.session.durationLimit = some minutes → p.session.durationStart = some since →
        60000 * minutes ≤ p.now - since →
        exec .durationTimerExpiry s = s.leaves (p.terminate .duration).finish)

/-- Tier 2. R87, R91, R92: a termination takes a running session to ENDING with its cause, written into the record
too, and raises SESSION_STATE; its inlet claim is released, its suspension causes are empty, its graces and duration
timer stop, and it asks for no charge. With a tail count of 0 it closes at once. With one above 0 it stays in ENDING,
with as much of its tail taken as before, which is 0 for a session that has not been in ENDING, while the INLET entry
is LIVE with its plug PRESENT and the monitor is not TRIPPED; otherwise the tail is cut: the session closes, with
TAIL_CUT in its record when the tail taken is below the tail count, in ENDING too. A closing session closes its
record, takes the context of a CLOSED session and raises SESSION_CLOSED. An increment accepted in ENDING is taken into
the tail, and the one that completes it closes the session. In ENDING and CLOSED a termination changes nothing. A
session that INLET_STALE terminates closes as R92 says (log 43), and a stopped duration timer keeps no elapsed time
(log 51). -/
def Obligations.TerminationEndsSession : Prop :=
  (∀ (p : Machine.Part) (c : Cause),
    (p.session.state.running = false → p.terminate c = p)
      ∧ (p.session.state.running = true →
        let q := p.terminate c
        let s : Session := { p.session with
          state := .ending, cause := some c, causes := ⟨false, false, false, false⟩, resume := none
          durationStart := none, inletGrace := none, unknownGrace := none }
        let caused : Machine.Part := { p with
          session := s, store := { p.store with opened := p.store.opened.map fun r => { r with cause := some c } } }
        let told := caused.raise
          (.sessionState s.recordNumber p.session.state .ending ⟨false, false, false, false⟩ (some c))
        let ending : Machine.Part := { told with drive := { told.drive with branches := { told.drive.branches with
          dcInlet := { told.drive.branches.dcInlet with claimSession := false }
          converter := { told.drive.branches.converter with claimSession := false } } } }
        let tail := p.monitor.state ≠ .tripped ∧ ∃ r, p.liveInlet = some r ∧ r.plugPresent = true
        (s.tailCount = 0 → q = ending.closeSession)
          ∧ (0 < s.tailCount → tail → q = ending)
          ∧ (0 < s.tailCount → ¬ tail → q = ending.cutTail)
          ∧ (q.session.state = .ending ∧ q.session.cause = some c ∧ 0 < q.session.tailCount
              ∧ q.session.tailTaken = p.session.tailTaken
            ∨ q.session.state = .closed)
          ∧ (p.session.tailCount = 0 → q.session.state = .closed)
          ∧ (∀ b, (q.branch b).claimSession = true → b ≠ .dcInlet ∧ b ≠ .converter)
          ∧ q.session.causes = ⟨false, false, false, false⟩ ∧ q.session.resume = none
          ∧ q.session.inletGrace = none ∧ q.session.unknownGrace = none ∧ q.session.durationStart = none
          ∧ q.chargeAsk = 0 ∧ q.drawLimitNow = 0))
    ∧ (∀ p : Machine.Part,
      let cut : Machine.Part := { p with store := { p.store with opened := p.store.opened.map fun r =>
        { r with flags := { r.flags with tailCut := true } } } }
      (p.session.state ≠ .ending → p.cutTail = p)
        ∧ (p.session.state = .ending → p.session.tailTaken < p.session.tailCount → p.cutTail = cut.closeSession)
        ∧ (p.session.state = .ending → p.session.tailCount ≤ p.session.tailTaken → p.cutTail = p.closeSession))
    ∧ (∀ (p : Machine.Part) (n : Nat),
      let taken : Machine.Part := { p with
        session := { p.session with tailTaken := p.session.tailTaken + 1 }
        store := { p.store with opened := p.store.opened.map fun r => { r with tail := addEnergy r.tail n } } }
      p.takeTail n = if p.session.tailCount ≤ p.session.tailTaken + 1 then taken.closeSession else taken)
    ∧ ∀ p : Machine.Part,
      let s := p.session
      let q := p.closeSession
      q = ({ p.closeRecord with session := { Session.initial with
          table := s.table, bandPower := s.bandPower, chargeEnable := s.chargeEnable } } : Machine.Part).raise
            (.sessionClosed s.recordNumber s.ordinal s.cause)
        ∧ q.session.state = .closed ∧ q.session.cause = none ∧ q.session.tailTaken = 0 ∧ q.session.recordNumber = 0

/-- Tier 1. R106: a burst that reaches its end time is extended while its demand flag is set, it is among the granted
zones, its extensions are below the maximum and the burst limit leaves it its turn (mode ALL, an empty wait list, or
a count of bursts, this one included, below the limit), and ends EXPIRED otherwise. An extended burst runs from the
expiry (log 31). -/
def Obligations.BurstExpiryExtendsOrEnds : Prop :=
  ∀ (z : Zone) (at_ : Nat) (s : Machine.State),
    let p := s.part
    let c := p.zone z
    let goesOn (t : HeatTable) : Prop :=
      c.demand = true ∧ z ∈ p.budget.granted ∧ c.extensions < (t.zones.get z).maxExtensions
        ∧ (t.mode = .all ∨ p.heat.waitList = []
          ∨ p.heat.burstOrder.length < (if t.mode = .pair then 2 else 1))
    c.state = .burst → c.endTime = some at_ → at_ ≤ p.now →
    (∀ t : Loaded HeatTable, p.heat.table = some t → goesOn t.table →
      let r := t.table.zones.get z
      let seconds := match r.kind with
        | .short => t.table.short
        | .long => t.table.long
      exec (.burstExpiry z) s = s.leaves
        (((p.modZone z fun c => { c with
            extensions := (p.zone z).extensions + 1
            endTime := some (p.now + 1000 * seconds)
            elementPower := some r.power }).raise
          (.heatZone z (.extended ((p.zone z).extensions + 1)))).finish))
      ∧ ((∀ t : Loaded HeatTable, p.heat.table = some t → ¬ goesOn t.table) →
        exec (.burstExpiry z) s = s.leaves (p.endBurst .expired z).finish)

/-- Tier 2. R107, R112, R113: an ending takes the zone out of the burst order with its figures cleared, its last
ending written and heat-on commanded OFF; it goes to QUARANTINED, REST or OFF as the ending and the quarantine flag
say. Every other zone stays as it was, and a zone not in BURST is left alone. -/
def Obligations.BurstEndingLeavesZone : Prop :=
  ∀ (p : Machine.Part) (e : Ending) (z : Zone),
    let q := p.endBurst e z
    let rests := e = .expired ∨ e = .hot ∨ e = .cut ∨ e = .stopped ∨ e = .stale
    ((p.zone z).state ≠ .burst → q = p)
      ∧ ((p.zone z).state = .burst →
        q.heat.burstOrder = p.heat.burstOrder.erase z
          ∧ (∀ y, y ≠ z → q.zone y = p.zone y)
          ∧ (q.zone z).elementPower = none ∧ (q.zone z).extensions = 0 ∧ (q.zone z).lastEnding = some e
          ∧ (q.zone z).heatOn = false ∧ (q.zone z).change = some ⟨false, p.now + 300⟩
          ∧ (q.zone z).demand = (p.zone z).demand
          ∧ ((p.branch z.branch).quarantine = true → (q.zone z).state = .quarantined ∧ (q.zone z).endTime = none)
          ∧ ((p.branch z.branch).quarantine = false → rests → (q.zone z).state = .rest
            ∧ ∀ t : Loaded HeatTable, p.heat.table = some t →
              (q.zone z).endTime = some (p.now + 1000 * (t.table.zones.get z).rest))
          ∧ ((p.branch z.branch).quarantine = false → ¬ rests →
            (q.zone z).state = .off ∧ (q.zone z).endTime = none))

/-- Tier 1. R111: a rest that reaches its end time puts the zone into WAITING at the tail of the wait list when its
demand flag is set, and to OFF otherwise. -/
def Obligations.RestExpiryWaitsOrRests : Prop :=
  ∀ (z : Zone) (at_ : Nat) (s : Machine.State),
    let p := s.part
    let c := p.zone z
    c.state = .rest → c.endTime = some at_ → at_ ≤ p.now →
    exec (.restExpiry z) s = s.leaves
      (if c.demand then
        ({ p with heat := { p.heat with
          zones := p.heat.zones.set z { c with state := .waiting, endTime := none }
          waitList := p.heat.waitList ++ [z] } } : Machine.Part).finish
      else
        ({ p with heat := { p.heat with
          zones := p.heat.zones.set z { c with state := .off, endTime := none } } } : Machine.Part).finish)

/-- Tier 1. R45, R48, R51, R117, R118, R175: a minute tick counts the minute and the week on and looks the active band
up again. It counts the departures down: the minutes to go of every entry fall by one, DEPARTURE_DONE is raised for
each entry that reaches 0, a weekly one goes to the tail with 10,080 minutes to go and its window closed, and any
other is removed. Then the windows are evaluated, and an entry within the lead becomes active. In DORMANT a first
entry within the largest lead wakes the part. The tick falls due when the model's own clock phase has counted 1,000 ms
at second 59, and the phase goes on from there (log 1). R48: the active band is the band with the greatest start at or
below the minute, before the first start the last band, with an invalid clock the fallback, and with no TARIFF table
the fallback with all rates 0. -/
def Obligations.MinuteTickCountsOn : Prop :=
  (∀ (c : Clock) (s : Machine.State),
    let p := s.part
    p.meter.clock = some c → 59 ≤ c.second → 1000 ≤ p.meter.clockPhase →
    let next : Clock := if c.minute + 1 < 10080 then ⟨c.week, c.minute + 1, 0⟩
      else if c.week = 65535 then ⟨0, 0, 0⟩ else ⟨c.week + 1, 0, 0⟩
    let q : Machine.Part :=
      ({ p with meter := { p.meter with clock := some next, clockPhase := p.meter.clockPhase - 1000 } } :
        Machine.Part).refreshBand
    let counted := p.heat.departures.map fun d => { d with minutesToGo := d.minutesToGo - 1 }
    let reached := counted.filter fun d => d.minutesToGo == 0
    let told := reached.foldl (fun (a : Machine.Part) d =>
      a.raise (.departureDone d.minute d.target d.weekly .reached (p.nodes.pack.map PackReadings.coldest))) q
    let again := (reached.filter fun d => d.weekly).map fun d => { d with minutesToGo := 10080, active := false }
    let left := (counted.filter fun d => d.minutesToGo != 0) ++ again
    let r := ({ told with heat := { told.heat with departures := left } } : Machine.Part).evalWindows
    let wakes := p.mgmt.partState = .dormant ∧ ∃ d more t, r.heat.departures = d :: more
      ∧ p.heat.table = some t ∧ d.minutesToGo ≤ t.table.largestLead ∧ 0 < t.table.largestLead
    (wakes → exec .minuteTick s = s.leaves (r.wake .departure).finish)
      ∧ (¬ wakes → exec .minuteTick s = s.leaves r.finish))
    ∧ (∀ p : Machine.Part,
      (p.heat.table = none → p.evalWindows = p)
        ∧ ∀ t : Loaded HeatTable, p.heat.table = some t →
          let lead := match p.livePack with
            | none => t.table.largestLead
            | some r => match t.table.leads.find? (fun e => decide (r.coldest ≤ e.upper)) with
              | none => 0
              | some e => e.lead
          p.evalWindows = { p with heat := { p.heat with departures := p.heat.departures.map fun d =>
            { d with active := d.active || decide (d.minutesToGo ≤ lead) } } })
    ∧ (∀ clock : Option Clock, activeBand none clock = ⟨255#8, 255#8, ⟨0, 0, 0⟩⟩)
    ∧ ∀ t : Loaded TariffTable,
      let bands := t.table.bands
      activeBand (some t) none = ⟨255#8, 255#8, t.table.fallback⟩
        ∧ ((bands.Pairwise fun a b => a.start < b.start) → ∀ (c : Clock) (k : Nat) (b : TariffBand),
          bands[k]? = some b →
          (b.start ≤ c.minute → (∀ e ∈ bands.drop (k + 1), c.minute < e.start) →
            activeBand (some t) (some c) = ⟨BitVec.ofNat 8 k, b.code, b.rates⟩)
            ∧ (k + 1 = bands.length → (∀ e ∈ bands, c.minute < e.start) →
              activeBand (some t) (some c) = ⟨BitVec.ofNat 8 k, b.code, b.rates⟩))

/-- Tier 2. R184: the completion of a validation. With the answer queue full it waits; else the LOAD_COMMIT is
answered and leaves: WRONG_STATE for INSULATION under an active procedure, TABLE_INVALID with index 255 or with the
offending index, or OK with the table applied, in the committed set, its staging and borrow ended, and TABLE_COMMITTED
raised before the notices of the event's end (log 12). R9, R47, R58, R71, R99, R127: the six validations, each the
list of an image's parts in order of examination with their offending indices; the first part that breaks its
condition gives the index, and an image without one says its table. Of two NODE entries that clash the later offends
(log 16). R9, R49, R58, R71, R84, R85, R99, R127: what each table's commit does before the end of the event; at a
LIMIT commit R81 moves the session before FULL is judged (log 21), and a NODE commit sets band power to 0 (log 11).
11.5: the length that an image's own counts give. That TABLE_INVALID carries its index in one byte is the model's
choice (log 44). -/
def Obligations.CommitCompletionJudgesImage : Prop :=
  (∀ (v : Validation) (g : Staging) (c : Frame) (rest : List Frame) (s : Machine.State),
    let p := s.part
    p.mgmt.validation = some v → p.mgmt.staging = some g → p.mgmt.commands = c :: rest →
    let img := g.buffer.take g.length
    let q : Machine.Part := { p with mgmt := { p.mgmt with validation := none } }
    (8 ≤ p.mgmt.answers.length →
      exec .loadCommitCompletion s
        = s.leaves { p with mgmt := { p.mgmt with validation := some { v with done := true } } })
      ∧ (p.mgmt.answers.length < 8 →
        exec .loadCommitCompletion s =
          if g.table = .insulation ∧ p.locator.active = true then s.answers q c rest .wrongState []
          else if g.length ≠ impliedLength g.table g.buffer then s.answers q c rest .tableInvalid [255#8]
          else
            match q.judgeImage g.table img with
            | .error k => s.answers q c rest .tableInvalid (beBytes 1 k)
            | .ok a =>
              let m := { a.mgmt with
                staging := none
                committed := if a.mgmt.committed.contains g.table then a.mgmt.committed
                  else a.mgmt.committed ++ [g.table] }
              let b : Machine.Part := { a with mgmt := m, store := { a.store with borrow := false } }
              s.answers ((b.raise (.tableCommitted g.table g.length (crc16 img))).finish) c rest .ok
                (g.table.code :: beBytes 2 (crc16 img).toNat)))
    ∧ (∀ (own : Byte) (img : List Byte),
      let address (k : Nat) : Byte := byteAt img (9 * k + 1)
      let entryOk (k : Nat) : Prop := ∃ r, Role.ofCode (u8 img (9 * k)) = some r
        ∧ (∀ j, j < k → Role.ofCode (u8 img (9 * j)) ≠ some r)
        ∧ 1 ≤ (address k).toNat ∧ (address k).toNat ≤ 55 ∧ (∀ j, j < k → address j ≠ address k)
        ∧ address k ≠ own ∧ 10 ≤ u16 img (9 * k + 2) ∧ u16 img (9 * k + 2) ≤ 2000
        ∧ 2 ≤ u8 img (9 * k + 4) ∧ u8 img (9 * k + 4) ≤ 15
        ∧ (r = .inlet ∨ r = .heater ∨ r = .cargo → 1 ≤ u32 img (9 * k + 5))
      judgedInOrder ((List.range 8).map fun k => (k, entryOk k)) (judgeNode own img)
        (.ok ((List.range 8).filterMap fun k => (Role.ofCode (u8 img (9 * k))).map fun r =>
          ⟨r, address k, u16 img (9 * k + 2), u8 img (9 * k + 4), u32 img (9 * k + 5)⟩)))
    ∧ (∀ img : List Byte,
      let n := u8 img 2
      let upper (k : Nat) : Int := i8 img (3 + 4 * k)
      let power (k : Nat) : Nat := u24 img (4 + 4 * k)
      let header : Prop := 1 ≤ u8 img 0 ∧ u8 img 0 ≤ 60 ∧ 50 ≤ u8 img 1 ∧ u8 img 1 ≤ 100 ∧ 1 ≤ n ∧ n ≤ 12
      let entryOk (k : Nat) : Prop := -40 ≤ upper k ∧ upper k ≤ 70 ∧ (0 < k → upper (k - 1) < upper k)
        ∧ power k ≤ 150000
      judgedInOrder
        ((0, header) :: (((List.range n).map fun k => (k, entryOk k)) ++ [(n - 1, ∃ k, k < n ∧ 0 < power k)]))
        (judgeLimit img)
        (.ok ⟨u8 img 0, u8 img 1, (List.range n).map fun k => ⟨upper k, power k⟩⟩))
    ∧ (∀ img : List Byte, judgedInOrder
      [(0, u16 img 0 ≤ 5000), (1, 800 ≤ u16 img 2 ∧ u16 img 2 ≤ 1000), (2, u8 img 4 ≤ 1),
        (3, u16 img 5 ≤ 50000), (4, u16 img 7 ≤ 12000), (5, 10 ≤ u8 img 9 ∧ u8 img 9 ≤ 90),
        (6, u16 img 10 ≤ 2000), (7, 100 ≤ u16 img 12 ∧ u16 img 12 ≤ 5000)]
      (judgeBudget img)
      (.ok ⟨u16 img 0, u16 img 2, if u8 img 4 = 0 then .heatFirst else .chargeFirst, u16 img 5, u16 img 7,
        u8 img 9, u16 img 10, u16 img 12⟩))
    ∧ (∀ img : List Byte,
      let start (k : Nat) : Nat := u16 img (7 + 9 * k)
      let rates (pos : Nat) : PerAccount Nat := ⟨u16 img pos, u16 img (pos + 2), u16 img (pos + 4)⟩
      judgedInOrder
        ((0, 1 ≤ u8 img 0 ∧ u8 img 0 ≤ 16) :: (List.range (u8 img 0)).map fun k =>
          (k, start k ≤ 10079 ∧ (0 < k → start (k - 1) < start k)))
        (judgeTariff img)
        (.ok ⟨rates 1, (List.range (u8 img 0)).map fun k =>
          ⟨start k, byteAt img (9 + 9 * k), rates (10 + 9 * k)⟩⟩))
    ∧ (∀ img : List Byte,
      let n := u8 img 7
      let upper (k : Nat) : Int := i16 img (8 + 4 * k)
      let lead (k : Nat) : Nat := u16 img (10 + 4 * k)
      let record (z : Nat) : ZoneRecord :=
        let pos := 8 + 4 * n + 16 * z
        ⟨u16 img pos, i8 img (pos + 2), i8 img (pos + 3), i8 img (pos + 4),
          if u8 img (pos + 5) = 0 then .short else .long, u16 img (pos + 6), u8 img (pos + 8)⟩
      let header : Prop := u8 img 0 ≤ 2 ∧ 5 ≤ u16 img 1 ∧ u16 img 1 ≤ 120 ∧ 30 ≤ u16 img 3 ∧ u16 img 3 ≤ 600
        ∧ u16 img 1 < u16 img 3 ∧ u16 img 5 ≤ 20000 ∧ 1 ≤ n ∧ n ≤ 6
      let leadOk (k : Nat) : Prop := -40 ≤ upper k ∧ upper k ≤ 70 ∧ (0 < k → upper (k - 1) < upper k)
        ∧ lead k ≤ 240
      let zoneOk (z : Nat) : Prop :=
        let r := record z
        500 ≤ r.power ∧ r.power ≤ 3000 ∧ 0 ≤ r.target ∧ r.target ≤ 40 ∧ 1 ≤ r.hysteresis ∧ r.hysteresis ≤ 10
          ∧ 30 ≤ r.ceiling ∧ r.ceiling ≤ 60 ∧ r.target < r.ceiling ∧ u8 img (8 + 4 * n + 16 * z + 5) ≤ 1
          ∧ 5 ≤ r.rest ∧ r.rest ≤ 600 ∧ r.maxExtensions ≤ 7
      judgedInOrder
        ((0, header) :: (((List.range n).map fun k => (k + 1, leadOk k))
          ++ (List.range 4).map fun z => (z + 7, zoneOk z)))
        (judgeHeat img)
        (.ok ⟨if u8 img 0 = 0 then .all else if u8 img 0 = 1 then .pair else .single, u16 img 1, u16 img 3,
          u16 img 5, (List.range n).map fun k => ⟨upper k, lead k⟩,
          ⟨record 0, record 1, record 2, record 3⟩⟩))
    ∧ (∀ img : List Byte,
      let n := u8 img 33
      let record (k : Nat) : ContextRecord :=
        ⟨u16 img (9 + 6 * k), u16 img (11 + 6 * k), u8 img (13 + 6 * k), u8 img (14 + 6 * k)⟩
      let general : Prop := 2 ≤ u8 img 0 ∧ u8 img 0 ≤ 120 ∧ 1 ≤ u8 img 2 ∧ u8 img 2 ≤ 10 ∧ 1 ≤ u8 img 3
        ∧ u8 img 3 ≤ 5 ∧ 100 ≤ u16 img 4 ∧ u16 img 4 ≤ 10000 ∧ 10 ≤ u16 img 6 ∧ u16 img 6 ≤ 200
        ∧ 2 ≤ u8 img 8 ∧ u8 img 8 ≤ 8
      let recordOk (k : Nat) : Prop :=
        let r := record k
        50 ≤ r.warn ∧ r.warn ≤ 10000 ∧ 20 ≤ r.trip ∧ r.trip < r.warn ∧ 1 ≤ r.confirm ∧ r.confirm ≤ 15
          ∧ r.settle ≤ 15
      let shed (j : Nat) : Option Branch := Branch.ofSheddableCode (u8 img (34 + j))
      let shedOk : Prop := 1 ≤ n ∧ n ≤ 7 ∧ ∀ j, j < n → (shed j).isSome = true ∧ ∀ i, i < j → shed i ≠ shed j
      judgedInOrder [(0, general), (1, recordOk 0), (2, recordOk 1), (3, recordOk 2), (4, recordOk 3), (5, shedOk)]
        (judgeInsulation img)
        (.ok ⟨u8 img 0, flagAt img 1, u8 img 2, u8 img 3, u16 img 4, u16 img 6, u8 img 8,
          record 0, record 1, record 2, record 3, (List.range n).filterMap shed⟩))
    ∧ ∀ (p : Machine.Part) (img : List Byte),
      (∀ k, (judgeNode p.chain.address img = .error k → p.judgeImage .node img = .error k)
        ∧ (judgeLimit img = .error k → p.judgeImage .limit img = .error k)
        ∧ (judgeBudget img = .error k → p.judgeImage .budget img = .error k)
        ∧ (judgeTariff img = .error k → p.judgeImage .tariff img = .error k)
        ∧ (judgeHeat img = .error k → p.judgeImage .heat img = .error k)
        ∧ (judgeInsulation img = .error k → p.judgeImage .insulation img = .error k))
      ∧ (∀ es, judgeNode p.chain.address img = .ok es → p.judgeImage .node img = .ok { p with
        nodes := { NodeTable.initial with table := some ⟨img, es⟩ }
        meter := { p.meter with inletBase := none, heaterBase := none, cargoBase := none }
        drive := { p.drive with branches := p.drive.branches.map fun e => { e with feedback := none, change := none } }
        heat := { p.heat with zones := p.heat.zones.map fun z => { z with feedback := none, change := none } }
        monitor := { p.monitor with change := none }
        clamp := ⟨none, none⟩
        budget := { p.budget with window := [] }
        session := { p.session with bandPower := 0 } })
      ∧ (∀ t, judgeLimit img = .ok t →
        let q : Machine.Part := { p with session := { p.session with
          table := some ⟨img, t⟩
          chargeEnable := t.chargeEnable
          bandPower := match p.livePack with
            | none => 0
            | some r => t.bandPower r } }
        let moved := q.moveByBand.checkFull
        let r := match moved.session.inletGrace with
          | none => moved
          | some since => if 1000 * t.inletGrace ≤ moved.now - since then moved.terminate .inletStale else moved
        p.judgeImage .limit img = .ok { r with budget := { r.budget with recomputeDue := true } })
      ∧ (∀ t, judgeBudget img = .ok t → p.judgeImage .budget img = .ok { p with
        budget := { p.budget with table := some ⟨img, t⟩, recomputeDue := true } })
      ∧ (∀ t, judgeTariff img = .ok t → p.judgeImage .tariff img = .ok ({ p with
        meter := { p.meter with
          tariff := some ⟨img, t⟩
          band := activeBand (some ⟨img, t⟩) p.meter.clock } } : Machine.Part).formBoundary)
      ∧ (∀ t, judgeHeat img = .ok t →
        let q : Machine.Part := { p with heat := { p.heat with table := some ⟨img, t⟩ } }
        let beyond := match t.mode with
          | .all => []
          | .pair => (p.heat.burstOrder.drop 2).reverse
          | .single => (p.heat.burstOrder.drop 1).reverse
        let cut := (beyond.foldl (fun (a : Machine.Part) z => a.endBurst .cut z) q).evalWindows
        p.judgeImage .heat img = .ok { cut with heat := { cut.heat with demandDue := true } })
      ∧ impliedLength .node img = 72 ∧ impliedLength .limit img = 3 + 4 * u8 img 2
      ∧ impliedLength .budget img = 14 ∧ impliedLength .tariff img = 7 + 9 * u8 img 0
      ∧ impliedLength .heat img = 72 + 4 * u8 img 7 ∧ impliedLength .insulation img = 34 + u8 img 33
      ∧ (∀ t, judgeInsulation img = .ok t →
        let q : Machine.Part := { p with monitor := { p.monitor with
          table := some ⟨img, t⟩
          checkCount := if p.monitor.state = .checking then 0 else p.monitor.checkCount } }
        let r := match p.session.unknownGrace with
          | none => q
          | some since => if 1000 * t.grace ≤ p.now - since then q.terminate .insulationUnknown else q
        p.judgeImage .insulation img = .ok
          (if p.monitor.state = .settling ∨ p.monitor.state = .normal ∨ p.monitor.state = .warning then
            r.enterSettling
          else r))

/-- Tier 1. A row of an expiry, a tick or a completion that is not due has no effect. The model's choice (log 2). -/
def Obligations.NotDueHasNoEffect : Prop :=
  ∀ s : Machine.State,
    let p := s.part
    (∀ r, p.staleDue r = false → exec (.stalenessExpiry r) s = .next s)
      ∧ (∀ b, (∀ w, (p.branch b).change = some w → p.now < w.deadline) →
        exec (.switchDeadlineExpiry b) s = .next s)
      ∧ (∀ z, (∀ w, (p.zone z).change = some w → p.now < w.deadline) → exec (.heatPendingExpiry z) s = .next s)
      ∧ ((∀ w, p.monitor.change = some w → p.now < w.deadline) → exec .modeDeadlineExpiry s = .next s)
      ∧ (p.inletGraceDue = false → exec .inletStaleGraceExpiry s = .next s)
      ∧ (p.unknownGraceDue = false → exec .unknownGraceExpiry s = .next s)
      ∧ (p.durationDue = false → exec .durationTimerExpiry s = .next s)
      ∧ (∀ z, (p.zone z).state ≠ .burst ∨ (∀ t, (p.zone z).endTime = some t → p.now < t) →
        exec (.burstExpiry z) s = .next s)
      ∧ (∀ z, (p.zone z).state ≠ .rest ∨ (∀ t, (p.zone z).endTime = some t → p.now < t) →
        exec (.restExpiry z) s = .next s)
      ∧ ((∀ c, p.meter.clock = some c → c.second < 59 ∨ p.meter.clockPhase < 1000) →
        exec .minuteTick s = .next s)
      ∧ (p.mgmt.partState ≠ .dormant ∨ (∀ t, p.mgmt.wakeAt = some t → p.now < t) →
        exec .wakeIntervalExpiry s = .next s)
      ∧ (p.mgmt.validation = none → exec .loadCommitCompletion s = .next s)

/-! ## The taking of commands -/

/-- Tier 2. R178, R177: the gates before a command's own rule, for every command and for a code that names none; and
a row that names another command than the head's, or finds the head not takeable, leaves the queue alone
(log 4). -/
def Obligations.CommandGates : Prop :=
  (∀ (c : Frame) (rest : List Frame) (s : Machine.State),
    let p := s.part
    let name := nameOf c.payload
    p.mgmt.commands = c :: rest → p.mgmt.validation = none → p.mgmt.answers.length < 8 →
    exec name.row s =
      if c.payload.length < 3 then s.leaves { p with mgmt := { p.mgmt with commands := rest } }
      else if name = .unknown then s.answers p c rest .unknownCommand []
      else if lengthOk name c.payload.length = false then s.answers p c rest .range []
      else if p.mgmt.partState = .dormant ∧ name ≠ .status ∧ name ≠ .wake then s.answers p c rest .dormant []
      else if p.mgmt.partState = .held ∧ name.takenInHeld = false then s.answers p c rest .wrongState []
      else
        match workOf name p c with
        | .silent => s.leaves { p with mgmt := { p.mgmt with commands := rest } }
        | .answer after status fields =>
          .next { s with part := (after.dropCommand.pushAnswer (answerTo c status fields)).arbitrate }
        | .hold after => s.leaves after)
    ∧ (∀ (name : CommandName) (s : Machine.State),
      s.part.mgmt.commands = [] ∨ s.part.mgmt.validation ≠ none ∨ 8 ≤ s.part.mgmt.answers.length
        ∨ (∀ c rest, s.part.mgmt.commands = c :: rest → nameOf c.payload ≠ name) →
      exec name.row s = s.leaves s.part)
    ∧ ∀ name : CommandName, name.takenInHeld = true ↔
      name ∈ [.status, .configureMemory, .setNoticeMask, .loadBegin, .loadData, .loadCommit, .loadCancel,
        .readTable, .setClock, .release, .resetLink, .resetHeat, .resetPart, .releaseRecords, .readBranches,
        .readBudget, .sessionStatus, .readHeat, .readInsulation, .readFaults, .readRecord]

/-- Tier 1. R182: STATUS answers the raised bitmap and the three flags with the page's figures and clears the four;
a page other than 0 and 1 is refused and clears nothing. Model's choices in the page bytes: the raised bitmap in 2
bytes and one byte for each flag (log 44), the bits of the committed set (log 18), and the presence byte before the
clock stamp with the order of fields (log 17). -/
def Obligations.StatusReportsAndClears : Prop :=
  (∀ (c : Frame) (rest : List Frame) (s : Machine.State), s.part.Admits .status c rest →
    let p := s.part
    let page := u8 c.payload 3
    let q : Machine.Part := { p with
      chain := { p.chain with linkError := false, linkOverrun := false }
      mgmt := { p.mgmt with raised := 0#16, noticeLost := false } }
    exec .status s =
      if page = 0 then s.answers q c rest .ok p.statusPage0
      else if page = 1 then s.answers q c rest .ok p.statusPage1
      else s.answers p c rest .range [])
    ∧ ∀ p : Machine.Part,
      let head := beBytes 2 p.mgmt.raised.toNat
        ++ [flagByte p.chain.linkError, flagByte p.chain.linkOverrun, flagByte p.mgmt.noticeLost]
      p.statusPage0 = head
          ++ [p.mgmt.partState.code, p.mgmt.wakeReason.code, p.monitor.state.code, flagByte p.monitor.tripLatch]
          ++ maybeResistance p.monitor.latest ++ [p.session.state.code] ++ beBytes 2 p.session.recordNumber
          ++ [flagByte p.meter.clock.isSome] ++ stampBytes p.meter.clock ++ beBytes 2 p.store.free
          ++ [(p.mgmt.staging.map fun g => g.table.code).getD 0#8, tableSetByte p.mgmt.committed]
        ∧ p.statusPage1 = head ++ beBytes 6 p.meter.inletSeen.toNat ++ beBytes 6 p.meter.billed.toNat
          ++ beBytes 6 p.meter.unbilled.toNat ++ beBytes 6 p.meter.rejected.toNat

/-- Tier 2. R173: RELEASE is refused in RUN and while a table is absent, naming the first; else the part enters RUN
with the PART claims, the monitor starts, and the answer carries the monitor state entered: TRIPPED under the trip
latch, else CHECKING. -/
def Obligations.ReleaseEntersRun : Prop :=
  ∀ (c : Frame) (rest : List Frame) (s : Machine.State), s.part.Admits .release c rest →
    let p := s.part
    let absent := [TableId.node, .limit, .budget, .tariff, .heat, .insulation].filter
      fun t => (p.imageOf t).isNone
    (p.mgmt.partState = .run → exec .release s = s.answers p c rest .wrongState [])
      ∧ (∀ t more, p.mgmt.partState ≠ .run → absent = t :: more →
        exec .release s = s.answers p c rest .tableInvalid [t.code])
      ∧ (p.mgmt.partState ≠ .run → absent = [] →
        let q : Machine.Part := ({ p with mgmt := { p.mgmt with partState := .run } } : Machine.Part)
        let r := (((q.setPartClaims true).startMonitor .checking).demandDue.recomputeDue).finish
        exec .release s = s.answers r c rest .ok [r.monitor.state.code]
          ∧ r.mgmt.partState = .run
          ∧ r.monitor.state = (if p.monitor.tripLatch then .tripped else .checking)
          ∧ (p.monitor.tripLatch = false → ∀ b, b ≠ .dcInlet → b ≠ .converter →
            (p.branch b).shed = false → (p.branch b).quarantine = false → (r.branch b).commanded = true)
          ∧ r.drive.safeLine = (r.branch .main).commanded)

/-- Tier 2. R174, R34, R14, R103, R140: SLEEP and its refusals. Taken, it leaves the part in DORMANT with the wake
interval running, every branch commanded OPEN, the safe line low, the monitor OFF, no staleness timer running and no
manual source. The interval of each wake code is that of the table of R174. -/
def Obligations.SleepEntersDormant : Prop :=
  (∀ (c : Frame) (rest : List Frame) (s : Machine.State), s.part.Admits .sleep c rest →
    let p := s.part
    let code := u8 c.payload 3
    let r := (p.sleep code).finish
    exec .sleep s =
      (if p.mgmt.partState = .held then s.answers p c rest .wrongState []
      else if 15 < code then s.answers p c rest .range []
      else if p.session.state ≠ .closed then s.answers p c rest .sessionBusy []
      else if p.heat.burstOrder ≠ [] ∨ p.locator.active = true then s.answers p c rest .wrongState []
      else s.answers r c rest .ok (beBytes 1 code ++ beBytes 2 (wakeMinutes code)
        ++ maybeU16Zero (p.heat.departures.head?.map fun d => d.minutesToGo)))
      ∧ r.mgmt.partState = .dormant
      ∧ r.mgmt.wakeAt = (if code = 0 then none else some (p.now + 60000 * wakeMinutes code))
      ∧ (∀ b, (r.branch b).commanded = false) ∧ r.drive.safeLine = false
      ∧ r.monitor.state = .off
      ∧ (∀ role, (r.nodes.runtime.get role).timer = none
        ∧ (r.nodes.runtime.get role).state = (p.nodes.runtime.get role).state)
      ∧ r.heat.manual = none ∧ r.heat.departures = p.heat.departures ∧ r.mgmt.staging = p.mgmt.staging
      ∧ r.monitor.tripLatch = p.monitor.tripLatch)
    ∧ (List.range 16).map wakeMinutes = [0, 1, 2, 5, 10, 15, 20, 30, 45, 60, 120, 180, 240, 360, 720, 1440]

/-- Tier 1. R175: WAKE in DORMANT, the expiry of the wake interval, and a used INLET sample whose plug reading is
PRESENT wake the part to RUN with their reasons: the interval stops, the PART claims return, the timers of LIVE
entries start afresh, the monitor leaves OFF and demand is evaluated. An INLET sample with plug NONE leaves the part
in DORMANT. In HELD and RUN WAKE is refused. That WAKE's answer carries its reason as a field is the model's choice
(log 53). (The DEPARTURE wake is stated with the minute tick.) -/
def Obligations.WakeAndIntervalWakePart : Prop :=
  let woken (p : Machine.Part) (reason : WakeReason) : Machine.Part :=
    let q : Machine.Part :=
      { p with mgmt := { p.mgmt with partState := .run, wakeAt := none, wakeReason := reason } }
    (((q.setPartClaims true).startTimers.startMonitor p.monitor.wakeState).demandDue).finish
  (∀ (c : Frame) (rest : List Frame) (s : Machine.State), s.part.Admits .wake c rest →
    exec .wake s = if s.part.mgmt.partState = .dormant then s.answers (woken s.part .command) c rest .ok [1#8]
      else s.answers s.part c rest .wrongState [])
    ∧ (∀ (t : Nat) (s : Machine.State), s.part.mgmt.partState = .dormant → s.part.mgmt.wakeAt = some t →
      t ≤ s.part.now → exec .wakeIntervalExpiry s = s.leaves (woken s.part .interval))
    ∧ ∀ (p : Machine.Part) (e : NodeEntry) (seq : Byte) (x : InletReadings), p.mgmt.partState = .dormant →
      let used := p.markUsed e seq
      let q : Machine.Part := { used with nodes := { used.nodes with inlet := some x } }
      let metered := (q.meterInlet e x).inletReturns x
      p.useSample e seq (.inlet x) = (if x.plugPresent then woken metered .plug else metered.finish)
        ∧ (x.plugPresent = true → (p.useSample e seq (.inlet x)).mgmt.partState = .run
          ∧ (p.useSample e seq (.inlet x)).mgmt.wakeReason = .plug)
        ∧ (x.plugPresent = false → (p.useSample e seq (.inlet x)).mgmt.partState = .dormant)

/-- Tier 1. R176, R171: CONFIGURE_MEMORY and its refusals. That it leaves the list of held records as it stands and
sets both ring offsets to 0 is the model's choice (log 38). -/
def Obligations.ConfigureMemoryTakesSizes : Prop :=
  ∀ (c : Frame) (rest : List Frame) (s : Machine.State), s.part.Admits .configureMemory c rest →
    let p := s.part
    let record := u16 c.payload 3
    let staging := u16 c.payload 5
    let notice := u16 c.payload 7
    let ok := record % 32 = 0 ∧ staging % 32 = 0 ∧ notice % 32 = 0 ∧ 2048 ≤ record
      ∧ (staging = 0 ∨ (256 ≤ staging ∧ staging ≤ 2048)) ∧ 256 ≤ notice ∧ notice ≤ 2048
      ∧ record + staging + notice ≤ 16384
    exec .configureMemory s =
      if p.mgmt.partState ≠ .held ∨ p.mgmt.committed ≠ [] then s.answers p c rest .wrongState []
      else if ¬ ok then s.answers p c rest .range []
      else s.answers
        { p with
          mgmt := { p.mgmt with
            staging := none
            recordSize := record
            stagingSize := staging
            noticeSize := notice
            notices := p.mgmt.notices.take (notice / 32)
            noticeLost := p.mgmt.noticeLost || decide (notice / 32 < p.mgmt.notices.length) }
          store := { p.store with borrow := false, areaSize := record, head := 0, tail := 0 } }
        c rest .ok (beBytes 2 record ++ beBytes 2 staging ++ beBytes 2 notice)

/-- Tier 1. R181: SET_NOTICE_MASK takes a mask without positions 14 and 15, answers the mask in force before, and
changes nothing else. -/
def Obligations.NoticeMaskIsSet : Prop :=
  ∀ (c : Frame) (rest : List Frame) (s : Machine.State), s.part.Admits .setNoticeMask c rest →
    let p := s.part
    let mask := BitVec.ofNat 16 (u16 c.payload 3)
    exec .setNoticeMask s =
      if mask.getLsbD 14 = true ∨ mask.getLsbD 15 = true then s.answers p c rest .range []
      else s.answers { p with mgmt := { p.mgmt with mask := mask } } c rest .ok (beBytes 2 p.mgmt.mask.toNat)

/-- Tier 1. R183, R185, R170: LOAD_BEGIN, LOAD_DATA and LOAD_CANCEL with their refusals. That the flag of LOAD_BEGIN's
answer, an earlier staging discarded, takes one byte is the model's choice (log 44). -/
def Obligations.StagingIsLoaded : Prop :=
  (∀ (c : Frame) (rest : List Frame) (s : Machine.State), s.part.Admits .loadBegin c rest →
    let p := s.part
    let id := TableId.ofCode (u8 c.payload 3)
    let length := u16 c.payload 4
    let borrows := p.mgmt.stagingSize = 0 ∧ p.store.borrow = false
    let discarded := match p.mgmt.staging with
      | none => [0#8, 0#8]
      | some g => [1#8, g.table.code]
    exec .loadBegin s =
      match id with
      | none => s.answers p c rest .range []
      | some t =>
        let q : Machine.Part :=
          { p with mgmt := { p.mgmt with staging := some ⟨t, length, List.replicate 256 0#8⟩ } }
        if length = 0 ∨ 256 < length then s.answers p c rest .range []
        else if borrows ∧ p.session.state ≠ .closed then s.answers p c rest .sessionBusy []
        else if borrows ∧ p.store.free < 544 then s.answers p c rest .storeFull []
        else if borrows then
          s.answers (({ q with store := { q.store with borrow := true } } : Machine.Part).storeLowCheck 0) c rest
            .ok discarded
        else s.answers q c rest .ok discarded)
    ∧ (∀ (c : Frame) (rest : List Frame) (s : Machine.State), s.part.Admits .loadData c rest →
      let p := s.part
      let offset := u8 c.payload 3
      let data := c.payload.drop 4
      exec .loadData s =
        match p.mgmt.staging with
        | none => s.answers p c rest .wrongState []
        | some g =>
          if g.length < offset + data.length ∨ data.length = 0 ∨ 24 < data.length then
            s.answers p c rest .range []
          else s.answers
            { p with mgmt := { p.mgmt with staging := some { g with
              buffer := g.buffer.take offset ++ data ++ g.buffer.drop (offset + data.length) } } }
            c rest .ok (beBytes 2 (offset + data.length)))
    ∧ ∀ (c : Frame) (rest : List Frame) (s : Machine.State), s.part.Admits .loadCancel c rest →
      let p := s.part
      exec .loadCancel s = s.answers
        { p with mgmt := { p.mgmt with staging := none }, store := { p.store with borrow := false } }
        c rest .ok [(p.mgmt.staging.map fun g => g.table.code).getD 0#8]

/-- Tier 1. R184: LOAD_COMMIT is refused, or validation begins and the command holds the head. The bound of the
validation is 50 ms; that the completion may come at any time within it is the model's choice (log 23). -/
def Obligations.LoadCommitBeginsValidation : Prop :=
  ∀ (c : Frame) (rest : List Frame) (s : Machine.State), s.part.Admits .loadCommit c rest →
    let p := s.part
    exec .loadCommit s =
      match p.mgmt.staging with
      | none => s.answers p c rest .wrongState []
      | some g =>
        if (g.table = .node ∧ p.mgmt.partState ≠ .held) ∨ (g.table = .insulation ∧ p.locator.active = true) then
          s.answers p c rest .wrongState []
        else if (crc16 (g.buffer.take g.length)).toNat ≠ u16 c.payload 3 then s.answers p c rest .checksum []
        else s.leaves { p with mgmt := { p.mgmt with validation := some ⟨p.now + 50, false⟩ } }

/-- Tier 1. R186: READ_TABLE returns up to 24 bytes of the image in force and changes nothing. -/
def Obligations.ReadTableReturnsImage : Prop :=
  ∀ (c : Frame) (rest : List Frame) (s : Machine.State), s.part.Admits .readTable c rest →
    let p := s.part
    let offset := u8 c.payload 4
    exec .readTable s =
      match TableId.ofCode (u8 c.payload 3) with
      | none => s.answers p c rest .range []
      | some t =>
        match p.imageOf t with
        | none => s.answers p c rest .notFound []
        | some img =>
          if img.length ≤ offset then s.answers p c rest .range []
          else
            let count := min 24 (img.length - offset)
            s.answers p c rest .ok ([t.code] ++ beBytes 2 img.length ++ beBytes 2 (crc16 img).toNat
              ++ beBytes 2 offset ++ beBytes 1 count ++ (img.drop offset).take count)

/-- Tier 2. R187, R188, R123, R134, R165: the three scopes of RESET. LINK clears the chain traffic and nothing else;
HEAT applies the heating reset: every burst ends RESET with its heat-on commanded OFF, every zone is OFF or
QUARANTINED with no demand, the wait list is empty, the manual source gone and a HEAT_SET queued. PART leaves the part
in HELD with no session, its configuration, records, trip latch, clock and outbound sequence kept, and the RESET's
answer alone in the answer queue. R33, R19: every branch is OPEN and awaits OPEN, only its quarantine flag kept, and
the drives that tell the nodes are queued, with a clamp drive of 0 for each target whose last forwarded value was
above 0, the CONVERTER's before the INLET's (log 41). 3.8: counters and pools are 0 and the bases absent. 1.4: every
entry is UNSEEN with no reading. R70: the budget's values. R123: the zones as after a HEAT reset, with no feedback and
no mismatch. R142: the monitor is OFF, its mode pending change started (also without a NODE table, log 49). R158: the
procedure is abandoned with its LOCATE_RESULT latched, and the latch and the inert flag are clear. A RESET with
another scope is refused with RANGE under the LINK row (log 5). The heating reset evaluates no demand (log 36), and
queues its HEAT_SET though R33 leaves the drive queue unchanged under HEAT (log 55). -/
def Obligations.ResetsByScope : Prop :=
  (∀ (c : Frame) (rest : List Frame) (s : Machine.State), s.part.Admits .resetLink c rest →
    let p := s.part
    exec .resetLink s =
      if u8 c.payload 3 = 0 then s.answers
        { p with
          chain := { p.chain with fwd := [], linkError := false, linkOverrun := false }
          mgmt := { p.mgmt with commands := [c], answers := [], notices := [], noticeLost := false } }
        c [] .ok []
      else s.answers p c rest .range [])
    ∧ (∀ (c : Frame) (rest : List Frame) (s : Machine.State), s.part.Admits .resetHeat c rest →
      let q := s.part.resetHeating
      exec .resetHeat s = s.answers q.finish c rest .ok []
        ∧ q.heat.manual = none ∧ q.heat.waitList = [] ∧ (∀ z, (q.zone z).demand = false)
        ∧ q.heat.departures = s.part.heat.departures)
    ∧ (∀ p : Machine.Part,
      let q := p.resetHeating
      let ends (z : Zone) := p.heat.burstOrder.contains z && (p.zone z).state == .burst
      let on (z : Zone) := (p.zone z).heatOn && !ends z
      (∀ z, (q.zone z).state = (if (p.branch z.branch).quarantine then .quarantined else .off)
          ∧ (q.zone z).demand = false ∧ (q.zone z).endTime = none ∧ (q.zone z).heatOn = on z
          ∧ (q.zone z).lastEnding = (if ends z then some .reset else (p.zone z).lastEnding)
          ∧ (ends z = true → (q.zone z).elementPower = none ∧ (q.zone z).extensions = 0
            ∧ (q.zone z).change = some ⟨false, p.now + 300⟩)
          ∧ q.heat.burstOrder.count z = p.heat.burstOrder.count z - (if (p.zone z).state = .burst then 1 else 0))
        ∧ q.heat.manual = none ∧ q.heat.waitList = [] ∧ q.budget.recomputeDue = true
        ∧ q.heat.demandDue = p.heat.demandDue
        ∧ (p.nodes.table ≠ none → .heatSet ⟨on .z1, on .z2, on .z3, on .z4⟩ ∈ q.drive.queue))
    ∧ ∀ (c : Frame) (rest : List Frame) (s : Machine.State), s.part.Admits .resetPart c rest →
      let p := s.part
      let q := p.resetPart
      exec .resetPart s = s.answers q c [] .ok []
        ∧ q.mgmt.partState = .held ∧ q.mgmt.answers = [] ∧ q.mgmt.staging = none ∧ q.mgmt.mask = p.mgmt.mask
        ∧ q.mgmt.committed = p.mgmt.committed ∧ q.mgmt.outSeq = p.mgmt.outSeq
        ∧ (∀ b, (q.branch b).commanded = false ∧ (q.branch b).quarantine = (p.branch b).quarantine)
        ∧ q.drive.safeLine = false ∧ q.session.state = .closed ∧ q.session.drawLimit = 0
        ∧ q.monitor.tripLatch = p.monitor.tripLatch ∧ q.meter.clock = p.meter.clock
        ∧ (∀ t : TableId, q.imageOf t = p.imageOf t)
        ∧ (p.session.state ≠ .closed → q.store.opened = none)
        ∧ (∀ r ∈ p.store.closed, r ∈ q.store.closed)
        ∧ q.meter.inletBase = none ∧ q.meter.heaterBase = none ∧ q.meter.cargoBase = none
        ∧ q.meter.cargoPool = 0 ∧ q.meter.heatPool = 0 ∧ q.meter.inletSeen = 0#48 ∧ q.meter.billed = 0#48
        ∧ q.meter.unbilled = 0#48 ∧ q.meter.rejected = 0#48
        ∧ (∀ role, q.nodes.runtime.get role = ⟨.unseen, none, none, none⟩)
        ∧ q.nodes.inlet = none ∧ q.nodes.pack = none ∧ q.nodes.heater = none ∧ q.nodes.cargo = none
        ∧ q.nodes.converter = none ∧ q.nodes.contactor = none ∧ q.nodes.injector = none
        ∧ (∀ b, q.branch b = ⟨false, false, false, (p.branch b).quarantine, false, none,
          if p.nodes.table = none then none else some ⟨false, p.now + 300⟩, false⟩)
        ∧ (let on (z : Zone) := (p.zone z).heatOn && !(p.heat.burstOrder.contains z && (p.zone z).state == .burst)
          q.drive.queue = if p.nodes.table = none then []
            else [.switchSet false false false false, .isolationSet ⟨false, false, false, false⟩]
              ++ (if p.clamp.converter.any fun v => decide (0 < v) then [.setpoint 0] else [])
              ++ (if p.clamp.inlet.any fun v => decide (0 < v) then [.currentRequest 0] else [])
              ++ [.heatSet ⟨on .z1, on .z2, on .z3, on .z4⟩, .injectorMode .off])
        ∧ q.budget = {
          table := p.budget.table
          source := .none, available := 0, window := [], reservation := 0
          heatRequest := q.heatAsk, chargeRequest := 0, heatGrant := 0, granted := q.budget.granted, chargeGrant := 0
          basisAvailable := 0, basisReservation := 0, socAbove := false
          freeze := false, overdrawn := false, recomputeDue := false }
        ∧ (q.heat.burstOrder = [] → q.budget.heatRequest = [] ∧ q.budget.granted = [])
        ∧ q.heat.waitList = [] ∧ q.heat.manual = none ∧ q.heat.preheat = none
        ∧ q.heat.departures = p.heat.departures
        ∧ (∀ z, (q.zone z).state = (if (p.branch z.branch).quarantine then .quarantined else .off)
          ∧ (q.zone z).demand = false ∧ (q.zone z).endTime = none ∧ (q.zone z).feedback = none
          ∧ (q.zone z).mismatch = false
          ∧ q.heat.burstOrder.count z = p.heat.burstOrder.count z - (if (p.zone z).state = .burst then 1 else 0)
          ∧ (z ∈ p.heat.burstOrder → (p.zone z).state = .burst →
            (q.zone z).lastEnding = some .reset ∧ (q.zone z).heatOn = false))
        ∧ q.monitor = { Monitor.initial with
          table := p.monitor.table, tripLatch := p.monitor.tripLatch, change := some ⟨.off, p.now + 300⟩ }
        ∧ q.monitor.state = .off ∧ q.monitor.context = .parked ∧ q.monitor.mode = .off ∧ q.monitor.latest = none
        ∧ q.locator.active = false ∧ q.locator.latch = false ∧ q.locator.inert = false
        ∧ q.locator.faults = p.locator.faults ∧ (p.locator.active = true → q.mgmt.raised.getLsbD 7 = true)

/-- Tier 1. R31, R69, R97, R141, R122, R157: the reading commands answer their fields, spelled here byte for byte, and
change nothing. Model's choices: the order of fields, the places of a list and how an absent field reads (log 17), the
one place per departure held (log 17), the codes that the manual does not number (log 18), whole seconds and minutes
(log 25), the departure target over the zones (log 30), figures with no table in force (log 33), the locate context
after a procedure (log 24), the widths that R190 does not list (log 44), the elapsed minutes absent once the duration
timer has stopped (log 51), and the free values of a power or a count too wide for its field (logs 9, 10). -/
def Obligations.ReadingCommandsChangeNothing : Prop :=
  ∀ (c : Frame) (rest : List Frame) (s : Machine.State),
    let p := s.part
    let bits (a b c d : Bool) : Byte := BitVec.ofNat 8 (a.toNat + 2 * b.toNat + 4 * c.toNat + 8 * d.toNat)
    let switch (x : Option Bool) : Byte := match x with
      | none => 0xFF#8
      | some on => if on then 1#8 else 0#8
    let branch (b : Branch) : List Byte :=
      let e := p.branch b
      [bits e.claimPart e.claimSession false false, flagByte e.shed, flagByte e.quarantine,
          flagByte e.commanded, switch e.feedback, flagByte e.change.isSome]
        ++ (match e.change with
          | none => [0xFF#8, 0xFF#8]
          | some w => beBytes 2 (w.deadline - p.now))
        ++ [flagByte e.faulty]
    let n := p.session
    let session : List Byte :=
      [n.state.code, maybeCodeZero (n.resume.map SessionState.code), maybeCode (n.kindExpected.map Kind.code),
          maybeCode (n.kindActual.map ChargeKind.code)]
        ++ beBytes 2 n.recordNumber ++ beBytes 2 n.ordinal
        ++ [bits n.causes.pause n.causes.locate n.causes.inletStale n.causes.insulationUnknown,
          causeCode n.cause]
        ++ beBytes 6 n.tractionEnergy.toNat
        ++ (match n.energyTarget with
          | none => [0#8, 0#8, 0#8, 0#8]
          | some t => beBytes 4 t)
        ++ (match n.durationStart with
          | none => [0xFF#8, 0xFF#8]
          | some t => beBytes 2 ((p.now - t) / 60000))
        ++ maybeU16Zero n.durationLimit
        ++ [countByte (match n.stopSoc with
            | some x => x
            | none => n.table.elim 0 fun t => t.table.stopSocDefault),
          countByte n.tailCount, countByte n.tailTaken,
          countByte (p.store.opened.elim 0 fun r => r.segments.length)]
        ++ powerBytes n.bandPower ++ [tempByte n.chargeEnable] ++ powerBytes p.chargeAsk
        ++ powerBytes n.drawLimit
    let u := p.budget
    let ask (a : HeatAsk) : List Byte := a.zone.code :: (powerBytes a.power ++ [if a.bursting then 2#8 else 1#8])
    let budget : List Byte := u.source.code :: (powerBytes u.available
      ++ (u.window.map powerBytes).flatten ++ List.replicate (3 * (4 - u.window.length)) 0#8
      ++ [countByte u.window.length] ++ powerBytes u.reservation ++ powerBytes (u.available - u.reservation)
      ++ (u.heatRequest.map ask).flatten ++ List.replicate (5 * (4 - u.heatRequest.length)) 0#8
      ++ powerBytes u.chargeRequest ++ powerBytes u.heatGrant
      ++ [bits (u.granted.contains .z1) (u.granted.contains .z2) (u.granted.contains .z3)
        (u.granted.contains .z4)]
      ++ powerBytes u.chargeGrant ++ powerBytes u.basisAvailable ++ powerBytes u.basisReservation
      ++ [flagByte u.freeze, flagByte u.overdrawn, maybeCode (u.table.map fun t => t.table.orderMode.code)])
    let m := p.monitor
    let context := m.table.map fun t => t.table.record m.context
    let band := m.table.map fun t =>
      (t.table.expected - t.table.expected * t.table.tolerance / 1000,
        t.table.expected + t.table.expected * t.table.tolerance / 1000)
    let recover := maybeResistance (context.map fun r => r.warn + r.warn / 8)
    let insulation : List Byte :=
      [m.state.code, maybeCode (m.reason.map UnknownReason.code), m.wakeState.code, m.context.code,
          flagByte (p.countsClosed .dcInlet), flagByte (p.countsClosed .converter),
          flagByte (p.nodes.inlet.any fun r => r.monitorActive), m.mode.code,
          maybeCode (p.nodes.injector.map fun r => r.echo.code)]
        ++ maybeU16 (m.change.map fun w => w.deadline - p.now) ++ maybeResistance m.latest
        ++ maybeResistance (context.map fun r => r.trip) ++ maybeResistance (context.map fun r => r.warn)
        ++ recover ++ [context.elim 0#8 fun r => countByte r.confirm, context.elim 0xFF#8 fun r => countByte r.settle]
        ++ recover ++ [countByte m.tripCount, countByte m.warnCount, countByte m.recoverCount,
          countByte m.settleTaken, flagByte m.tripLatch]
        ++ (match m.state, band with
          | .checking, some b => [countByte m.checkCount] ++ maybeResistance (some b.1) ++ maybeResistance (some b.2)
          | _, _ => [0xFF#8] ++ maybeResistance none ++ maybeResistance none)
        ++ maybeResistance (p.store.opened.map fun r => r.lowest)
    let zone (z : Zone) : List Byte :=
      let k := p.zone z
      [k.state.code, flagByte k.demand, tempByte k.effectiveTarget, countByte k.extensions]
        ++ maybeU16 (k.endTime.map fun t => (t - p.now) / 1000)
        ++ [maybeCode (k.lastEnding.map Ending.code), flagByte k.heatOn, switch k.feedback, flagByte k.mismatch]
    let slots (zs : List Zone) : List Byte := zs.map Zone.code ++ List.replicate (4 - zs.length) 0#8
    let h := p.heat
    let lead := h.table.map fun t => match p.livePack with
      | none => t.table.largestLead
      | some r => t.table.leadAt r.coldest
    let departureTarget := higher (higher (p.departureTarget .z1) (p.departureTarget .z2))
      (higher (p.departureTarget .z3) (p.departureTarget .z4))
    let sources : List Byte := slots h.waitList ++ slots h.burstOrder
      ++ [maybeCode (h.table.map fun t => t.table.mode.code), flagByte h.preheat.isSome,
        flagByte (h.departures.any fun d => d.active), flagByte h.manual.isSome, tempByte h.preheat,
        tempByte departureTarget, h.manual.elim 0#8 fun x => bits x.mask.z1 x.mask.z2 x.mask.z3 x.mask.z4,
        tempByte (h.manual.elim none fun x => x.target)]
      ++ beBytes 6 (h.manual.elim 0 fun x => x.remaining) ++ maybeU16 lead
    let departure (d : Departure) : List Byte := beBytes 2 d.minute ++ [tempByte d.target, flagByte d.weekly]
      ++ beBytes 2 d.minutesToGo ++ [flagByte d.active]
    let l := p.locator
    let shed := m.table.elim [] fun t => t.table.shedList
    let locate : List Byte := [flagByte l.active, countByte l.cursor, l.phase.code, countByte l.sampleCount]
      ++ l.results.map StepResult.code ++ beBytes 2 l.before ++ beBytes 2 l.last
      ++ [flagByte l.latch, flagByte l.inert] ++ shed.map Branch.code ++ List.replicate (7 - shed.length) 0#8
    let counts := [countByte l.faults.length, countByte (l.faults.countP fun e => e.live)]
    let fault (e : FaultEntry) : List Byte := [faultBranchCode e.branch, e.verdict.code] ++ beBytes 2 e.before
      ++ beBytes 2 e.after ++ stampBytes e.stamp ++ beBytes 2 e.recordNumber ++ [flagByte e.live]
    (p.Admits .readBranches c rest → exec .readBranches s = s.answers p c rest .ok
      (branch .main ++ branch .dcInlet ++ branch .converter ++ branch .cargo ++ branch .zone1 ++ branch .zone2
        ++ branch .zone3 ++ branch .zone4 ++ [flagByte p.drive.safeLine]))
      ∧ (p.Admits .readBudget c rest → exec .readBudget s = s.answers p c rest .ok budget)
      ∧ (p.Admits .sessionStatus c rest → exec .sessionStatus s = s.answers p c rest .ok session)
      ∧ (p.Admits .readInsulation c rest → exec .readInsulation s = s.answers p c rest .ok insulation)
      ∧ (p.Admits .readHeat c rest → exec .readHeat s =
        if u8 c.payload 3 = 0 then s.answers p c rest .ok (zone .z1 ++ zone .z2 ++ zone .z3 ++ zone .z4)
        else if u8 c.payload 3 = 1 then s.answers p c rest .ok sources
        else if u8 c.payload 3 = 2 then s.answers p c rest .ok (p.heat.departures.map departure).flatten
        else s.answers p c rest .range [])
      ∧ (p.Admits .readFaults c rest → exec .readFaults s =
        if u8 c.payload 3 = 255 then s.answers p c rest .ok locate
        else if 11 < u8 c.payload 3 then s.answers p c rest .range []
        else
          match p.locator.faults[u8 c.payload 3]? with
          | none => s.answers p c rest .ok counts
          | some e => s.answers p c rest .ok (fault e ++ counts))

/-- Tier 1. R168, R169: READ_RECORD returns up to 24 bytes of a held record and changes nothing; RELEASE_RECORDS
removes the CLOSED records from the oldest up to the named one. Model's choices: the code of the record's state
(log 18), its readable size in 2 bytes (log 44) and the order of fields (log 17). -/
def Obligations.RecordsAreReadAndReleased : Prop :=
  (∀ (c : Frame) (rest : List Frame) (s : Machine.State), s.part.Admits .readRecord c rest →
    let p := s.part
    let number := u16 c.payload 3
    let offset := u16 c.payload 5
    let ends := beBytes 2 p.store.oldest ++ beBytes 2 p.store.newest
    exec .readRecord s =
      match p.store.held.find? (fun r => r.number == number) with
      | none => s.answers p c rest .notFound ends
      | some r =>
        if r.size ≤ offset then s.answers p c rest .range []
        else
          let count := min 24 (r.size - offset)
          s.answers p c rest .ok (beBytes 2 number ++ [p.store.stateByte number] ++ beBytes 2 r.size
            ++ beBytes 2 offset ++ beBytes 1 count ++ (r.bytes.drop offset).take count ++ ends
            ++ beBytes 2 p.store.free))
    ∧ ∀ (c : Frame) (rest : List Frame) (s : Machine.State), s.part.Admits .releaseRecords c rest →
      let p := s.part
      let number := u16 c.payload 3
      (¬ (∃ r ∈ p.store.closed, r.number = number) →
        exec .releaseRecords s
          = s.answers p c rest .notFound (beBytes 2 p.store.oldest ++ beBytes 2 p.store.newest))
        ∧ ∀ (before behind : List Record) (r : Record), p.store.closed = before ++ r :: behind →
          r.number = number → (∀ x ∈ before, x.number ≠ number) →
          let last := (r.start + r.size) % p.store.areaSize
          let store : RecordStore := { p.store with
            closed := behind
            tail := if behind = [] ∧ p.store.opened = none then p.store.head else last }
          exec .releaseRecords s = s.answers { p with store := store } c rest .ok
            ([countByte (before.length + 1)] ++ beBytes 2 store.oldest ++ beBytes 2 store.free)

/-- Tier 1. R46, R119: SET_CLOCK refuses a minute above 10,079 or a second above 59; else the clock holds the given
values with its band looked up, the departures moved when it was valid, and the windows evaluated. The move: an entry
whose minutes to go lie within the forward distance has passed, DEPARTURE_DONE is raised for it with reason PASSED,
and it is removed unless weekly; the entries that stay are counted afresh from the new minute, 0 read as 10,080, with
their windows closed, and stand in ascending order of minutes to go, as an insertion in turn places them. The clock's
second starts afresh (log 1), the notices of the move carry the new time (log 54), and the answer's band index and
flag take one byte each (log 44): the model's choices. -/
def Obligations.SetClockSetsTime : Prop :=
  (∀ (c : Frame) (rest : List Frame) (s : Machine.State), s.part.Admits .setClock c rest →
    let p := s.part
    let clock : Clock := ⟨u16 c.payload 3, u16 c.payload 5, u8 c.payload 7⟩
    let q : Machine.Part := ({ p with meter := { p.meter with clock := some clock, clockPhase := 0 } } : Machine.Part)
    let r := match p.meter.clock with
      | none => q.refreshBand.evalWindows.finish
      | some old => ((q.refreshBand).moveDepartures old clock).evalWindows.finish
    let band := activeBand p.meter.tariff (some clock)
    exec .setClock s =
      (if 10079 < clock.minute ∨ 59 < clock.second then s.answers p c rest .range []
      else s.answers r c rest .ok (beBytes 2 clock.week ++ beBytes 2 clock.minute ++ beBytes 1 clock.second
        ++ [band.index, band.code,
          flagByte (p.store.opened.isSome && band.index != p.meter.band.index)]))
      ∧ r.meter.clock = some clock ∧ r.meter.band = band)
    ∧ (∀ (p : Machine.Part) (old new : Clock),
      let distance : Int := ((new.week : Int) - old.week) * 10080 + ((new.minute : Int) - old.minute)
      let passed := p.heat.departures.filter fun d => decide ((d.minutesToGo : Int) ≤ distance)
      let told := passed.foldl (fun (a : Machine.Part) d =>
        a.raise (.departureDone d.minute d.target d.weekly .passed (p.nodes.pack.map PackReadings.coldest))) p
      let kept := p.heat.departures.filter fun d => d.weekly || decide (distance < (d.minutesToGo : Int))
      let moved := kept.map fun d => { d with
        minutesToGo :=
          let ahead := (d.minute + 10080 - new.minute) % 10080
          if ahead = 0 then 10080 else ahead
        active := false }
      p.moveDepartures old new = { told with heat := { told.heat with departures := orderDepartures moved } })
    ∧ (∀ ds : List Departure, (orderDepartures ds).Perm ds
      ∧ (orderDepartures ds).Pairwise fun a b => a.minutesToGo ≤ b.minutesToGo)
    ∧ orderDepartures [] = []
    ∧ ∀ (d : Departure) (ds : List Departure), ∃ before behind, orderDepartures ds = before ++ behind
      ∧ orderDepartures (d :: ds) = before ++ d :: behind
      ∧ (∀ e ∈ before, e.minutesToGo ≤ d.minutesToGo) ∧ ∀ e ∈ behind, d.minutesToGo < e.minutesToGo

/-- Tier 2. R75, R161, R162, R167: OPEN_SESSION and its refusals in order; taken, a record is reserved at the head
under the next record number and the session enters PLUG_WAIT with the command's fields. 11.3: a field whose presence
bit is clear is absent. A code that names no kind names no branch that could be QUARANTINED. -/
def Obligations.OpenSessionReservesRecord : Prop :=
  ∀ (c : Frame) (rest : List Frame) (s : Machine.State), s.part.Admits .openSession c rest →
    let p := s.part
    let b := c.payload
    let present (k : Nat) := (byteAt b 4).getLsbD k
    let f : OpenFields := {
      kindCode := u8 b 3
      target := if present 0 then some (u32 b 5) else none
      duration := if present 1 then some (u16 b 9) else none
      stopSoc := if present 2 then some (u8 b 11) else none
      tailCount := u8 b 12
      tags := ⟨BitVec.ofNat 32 (u32 b 13), BitVec.ofNat 32 (u32 b 17), BitVec.ofNat 32 (u32 b 21)⟩ }
    let kind : Option Kind :=
      if u8 b 3 = 0 then some .ac else if u8 b 3 = 1 then some .dc else if u8 b 3 = 2 then some .any else none
    let ac := (p.branch .converter).quarantine = true
    let dc := (p.branch .dcInlet).quarantine = true
    let gone := (kind = some .ac ∧ ac) ∨ (kind = some .dc ∧ dc) ∨ (kind = some .any ∧ ac ∧ dc)
    let ranged := f.target ≠ some 0 ∧ f.duration ≠ some 0 ∧ (f.stopSoc.all fun x => decide (50 ≤ x ∧ x ≤ 100)) = true
      ∧ f.tailCount ≤ 7
    exec .openSession s =
      (if p.mgmt.partState ≠ .run then s.answers p c rest .wrongState []
      else if p.session.state ≠ .closed then s.answers p c rest .sessionBusy []
      else if p.monitor.state = .tripped then s.answers p c rest .tripped []
      else if p.monitor.state = .faulty then s.answers p c rest .monitorFault []
      else if gone then s.answers p c rest .quarantined []
      else if p.store.borrow = true then s.answers p c rest .stagingActive []
      else if p.store.free < 288 then s.answers p c rest .storeFull []
      else
        match kind with
        | none => s.answers p c rest .range []
        | some k =>
          if ranged then s.answers (p.openSession f k).finish c rest .ok (beBytes 2 p.store.nextNumber)
          else s.answers p c rest .range [])
      ∧ ∀ k,
        let q := p.openSession f k
        q.session.state = .plugWait ∧ q.session.kindExpected = some k ∧ q.session.kindActual = none
          ∧ q.session.recordNumber = p.store.nextNumber ∧ q.session.ordinal = p.store.nextNumber
          ∧ q.session.energyTarget = f.target ∧ q.session.durationLimit = f.duration
          ∧ q.session.stopSoc = f.stopSoc ∧ q.session.tailCount = f.tailCount ∧ q.session.tags = f.tags
          ∧ q.session.causes = ⟨false, false, false, false⟩ ∧ q.session.tractionEnergy = 0#48
          ∧ (∃ r, q.store.opened = some r ∧ r.number = p.store.nextNumber ∧ r.kind = k
            ∧ r.segments.length = 1 ∧ r.start = p.store.head ∧ r.openStamp = p.meter.clock)
          ∧ q.store.closed = p.store.closed ∧ q.store.head = (p.store.head + 288) % p.store.areaSize
          ∧ q.store.nextNumber = (if p.store.nextNumber = 65535 then 1 else p.store.nextNumber + 1)

/-- Tier 2. R93, R94, R95: PAUSE_SESSION, RESUME_SESSION and ABORT_SESSION by session state. The cause answered for a
session that ABORT closes is 0 (log 27). R83: the set of suspension causes. A first cause in CONNECTING, PREHEAT or
CHARGING takes the session to SUSPENDED with the state left as its resume state and the record's suspend count one
higher; a further cause joins the set; in PLUG_WAIT PAUSE alone joins; in ENDING and CLOSED nothing changes. The
removal of the last cause returns a SUSPENDED session to its resume state and applies the tests of R78, or of R81 and
then R89 (that order is log 21). -/
def Obligations.PauseResumeAbort : Prop :=
  (∀ (c : Frame) (rest : List Frame) (s : Machine.State),
    let p := s.part
    (p.Admits .pauseSession c rest →
      let q := (p.addCause .pause).finish
      exec .pauseSession s =
        if p.session.state = .closed then s.answers p c rest .noSession []
        else if p.session.state = .ending then s.answers p c rest .wrongState []
        else s.answers q c rest .ok [q.session.state.code, q.session.causes.code])
      ∧ (p.Admits .resumeSession c rest →
        let q := (p.removeCause .pause).finish
        exec .resumeSession s =
          if p.session.state = .closed then s.answers p c rest .noSession []
          else if p.session.state = .ending then s.answers p c rest .wrongState []
          else s.answers q c rest .ok [q.session.state.code, q.session.causes.code])
      ∧ (p.Admits .abortSession c rest →
        let q := (p.terminate .abort).finish
        exec .abortSession s =
          if p.session.state = .closed then s.answers p c rest .noSession []
          else s.answers q c rest .ok [causeCode q.session.cause]))
    ∧ (∀ (causes : SuspensionCauses) (c d : Suspension) (on : Bool),
      (causes.put c on).has d = if d = c then on else causes.has d)
    ∧ (∀ (p : Machine.Part) (c : Suspension),
      let st := p.session.state
      let causes := p.session.causes.put c true
      (st = .connecting ∨ st = .preheat ∨ st = .charging →
        p.addCause c = ({ p with
          session := { p.session with state := .suspended, causes := causes, resume := some st }
          store := { p.store with opened := p.store.opened.map fun r =>
            { r with suspendCount := min (r.suspendCount + 1) 65535 } } } : Machine.Part).raise
          (.sessionState p.session.recordNumber st .suspended causes none))
        ∧ (st = .suspended ∨ (st = .plugWait ∧ c = .pause) →
          p.addCause c = { p with session := { p.session with causes := causes } })
        ∧ ((st = .plugWait ∧ c ≠ .pause) ∨ st = .ending ∨ st = .closed → p.addCause c = p))
    ∧ ∀ (p : Machine.Part) (c : Suspension),
      let causes := p.session.causes.put c false
      let last := p.session.state = .suspended ∧ ∀ d, causes.has d = false
      (p.session.causes.has c = false → p.removeCause c = p)
        ∧ (p.session.causes.has c = true → ¬ last →
          p.removeCause c = { p with session := { p.session with causes := causes } })
        ∧ ∀ st, p.session.causes.has c = true → last → p.session.resume = some st → st ≠ .ending →
          let q : Machine.Part := ({ p with session := { p.session with
            state := st, causes := causes, resume := none } } : Machine.Part).raise
              (.sessionState p.session.recordNumber .suspended st causes none)
          let closedUnder (k : ChargeKind) : Prop := q.session.kindActual = some k
            ∧ q.shouldClose k.branch = true ∧ (q.branch k.branch).commanded = true
            ∧ (q.branch k.branch).change = none ∧ (q.branch k.branch).feedback = some true
          (st = .connecting → (∃ k, closedUnder k) → p.removeCause c =
            (q.enterSession (if q.session.bandPower = 0 then .preheat else .charging)).checkFull)
            ∧ (st = .connecting → (¬ ∃ k, closedUnder k) → p.removeCause c = q)
            ∧ (st = .preheat → p.removeCause c =
              (if 0 < q.session.bandPower then q.enterSession .charging else q).checkFull)
            ∧ (st = .charging → p.removeCause c =
              (if q.session.bandPower = 0 then q.enterSession .preheat else q).checkFull)

/-- Tier 2. R96, R166: SPLIT_SESSION and its refusals; taken, the OPEN record is closed with cause SPLIT behind the
CLOSED ones, a continuation record with the same ordinal is reserved under the next number, and of the session only
its record number and tags change. That the refusal STORE_FULL gives the closed size in 2 bytes is the model's choice
(log 44). -/
def Obligations.SplitContinuesUnderNewRecord : Prop :=
  ∀ (c : Frame) (rest : List Frame) (s : Machine.State), s.part.Admits .splitSession c rest →
    let p := s.part
    let tags := tagsAt c.payload 3
    let needs := match p.store.opened with
      | none => 288
      | some r => 96 + 24 * r.segments.length
    exec .splitSession s =
      (if p.session.state = .closed then s.answers p c rest .noSession []
      else if p.session.state = .plugWait ∨ p.session.state = .ending then s.answers p c rest .wrongState []
      else if p.store.free < needs then
        s.answers p c rest .storeFull (beBytes 2 p.store.free ++ beBytes 2 needs)
      else s.answers (p.split tags) c rest .ok
        (beBytes 2 p.session.recordNumber ++ beBytes 2 p.store.nextNumber))
      ∧ ∀ r, p.store.opened = some r →
        let q := p.split tags
        q.session = { p.session with recordNumber := p.store.nextNumber, tags := tags }
          ∧ (∃ old, q.store.closed = p.store.closed ++ [old] ∧ old.number = r.number ∧ old.cause = some .split
            ∧ old.closeStamp = p.meter.clock ∧ old.energy = r.energy)
          ∧ (∃ new, q.store.opened = some new ∧ new.number = p.store.nextNumber
            ∧ new.ordinal = p.session.ordinal ∧ new.tags = tags ∧ new.flags.continuation = true
            ∧ new.suspendCount = (if p.session.state = .suspended then 1 else 0))

/-- Tier 1. R114, R116: HEAT_NOW starts or replaces the manual source within the heat cap; HEAT_STOP ends it and every
burst with ending STOPPED. That its answer's flag takes one byte is the model's choice (log 44), and so is a cap of 0
with no HEAT table in force (log 33). -/
def Obligations.ManualHeatStartsAndStops : Prop :=
  ∀ (c : Frame) (rest : List Frame) (s : Machine.State),
    let p := s.part
    (p.Admits .heatNow c rest →
      let mask := zoneBits (byteAt c.payload 3) 0
      let target := targetOf c.payload 4
      let energy := u16 c.payload 5
      let cap := match p.heat.table with
        | none => 0
        | some t => t.table.cap
      let before := match p.heat.manual with
        | none => 0
        | some m => m.remaining
      let q : Machine.Part := { p with heat := { p.heat with
        manual := some ⟨mask, target, 1000 * energy⟩, demandDue := true } }
      exec .heatNow s =
        if mask = ⟨false, false, false, false⟩ ∨ (∃ x, target = some x ∧ ¬ (0 ≤ x ∧ x ≤ 40)) ∨ energy = 0 then
          s.answers p c rest .range []
        else if cap < energy then s.answers p c rest .overLimit []
        else s.answers q.finish c rest .ok (beBytes 6 (1000 * energy) ++ beBytes 6 before))
      ∧ (p.Admits .heatStop c rest →
        let q : Machine.Part := { p with heat := { p.heat with
          manual := none, demandDue := p.heat.demandDue || p.heat.manual.isSome } }
        exec .heatStop s = s.answers (q.endBursts .stopped).finish c rest .ok
          [countByte p.heat.burstOrder.length, flagByte p.heat.manual.isSome])

/-- Tier 1. R120, R121, R117: SET_DEPARTURE makes or replaces the entry of a departure minute, placed before the first
entry with more minutes to go, with the windows evaluated; CANCEL_DEPARTURE removes it. That the two flags of
SET_DEPARTURE's answer take one byte each is the model's choice (log 44). -/
def Obligations.DeparturesAreSetAndCancelled : Prop :=
  (∀ (c : Frame) (rest : List Frame) (s : Machine.State), s.part.Admits .setDeparture c rest →
    let p := s.part
    let minute := u16 c.payload 3
    let target := targetOf c.payload 5
    let weekly := byteAt c.payload 6 != 0#8
    let others := p.heat.departures.filter fun e => e.minute != minute
    let held := p.heat.departures.any fun e => e.minute == minute
    exec .setDeparture s =
      match p.meter.clock with
      | none => s.answers p c rest .noClock []
      | some clock =>
        let ahead := (minute + 10080 - clock.minute) % 10080
        let toGo := if ahead = 0 then 10080 else ahead
        let q : Machine.Part := (({ p with heat := { p.heat with
          departures := insertDeparture ⟨minute, target, weekly, toGo, false⟩ others } } :
            Machine.Part).evalWindows).finish
        if 10079 < minute ∨ (∃ x, target = some x ∧ ¬ (0 ≤ x ∧ x ≤ 40)) then s.answers p c rest .range []
        else if 4 ≤ p.heat.departures.length ∧ held = false then s.answers p c rest .storeFull []
        else s.answers q c rest .ok (beBytes 2 toGo
          ++ [flagByte held, flagByte ((q.departureAt minute).any fun d => d.active)]))
    ∧ (∀ (d : Departure) (ds : List Departure), ∃ before behind, ds = before ++ behind
      ∧ insertDeparture d ds = before ++ d :: behind ∧ (∀ e ∈ before, e.minutesToGo ≤ d.minutesToGo)
      ∧ ∀ e, behind.head? = some e → d.minutesToGo < e.minutesToGo)
    ∧ ∀ (c : Frame) (rest : List Frame) (s : Machine.State), s.part.Admits .cancelDeparture c rest →
      let p := s.part
      let minute := u16 c.payload 3
      let others := p.heat.departures.filter fun e => e.minute != minute
      exec .cancelDeparture s =
        if 10079 < minute then s.answers p c rest .range []
        else if (p.heat.departures.any fun e => e.minute == minute) = false then
          s.answers p c rest .notFound []
        else s.answers ({ p with heat := { p.heat with departures := others } } : Machine.Part).finish c rest .ok
          [countByte others.length]

/-- Tier 1. R135: CLEAR_TRIP clears a trip only in TRIPPED with a latest settled reading at or above the recover limit
of the context in force; the latch clears, TRIP_CHANGE is raised and the monitor settles. Model's choices: that
TRIP_CHANGE carries no threshold (log 17) and the limit with no table in force (log 33). -/
def Obligations.ClearTripNeedsRecovery : Prop :=
  ∀ (c : Frame) (rest : List Frame) (s : Machine.State), s.part.Admits .clearTrip c rest →
    let p := s.part
    let fields := maybeResistance p.monitor.latest ++ beBytes 2 p.recoverLimit
    (p.monitor.state ≠ .tripped → exec .clearTrip s = s.answers p c rest .wrongState fields)
      ∧ (p.monitor.state = .tripped →
        (p.monitor.latest = none → exec .clearTrip s = s.answers p c rest .tripped fields)
          ∧ ∀ r, p.monitor.latest = some r →
            (r < p.recoverLimit → exec .clearTrip s = s.answers p c rest .tripped fields)
              ∧ (p.recoverLimit ≤ r →
                let q := (({ p with monitor := { p.monitor with tripLatch := false } } : Machine.Part).raise
                  (.tripChange false p.monitor.context r none)).enterSettling
                exec .clearTrip s = s.answers q.finish c rest .ok fields
                  ∧ q.finish.monitor.tripLatch = false ∧ q.monitor.state = .settling
                  ∧ q.monitor.settleTaken = 0))

/-- Tier 1. R138, R137: SELF_CHECK and its refusals; taken, the monitor enters CHECKING with its count at 0 and the
bursts end UNMONITORED. The fields with no INSULATION table in force are the model's choice (log 33). -/
def Obligations.SelfCheckEntersChecking : Prop :=
  ∀ (c : Frame) (rest : List Frame) (s : Machine.State), s.part.Admits .selfCheck c rest →
    let p := s.part
    let past := p.session.state ≠ .closed ∧ p.session.state ≠ .plugWait
    let q : Machine.Part := (({ p with monitor := { p.monitor with checkCount := 0 } } :
      Machine.Part).enterMonitor .checking none).endBursts .unmonitored
    exec .selfCheck s =
      (if past then s.answers p c rest .sessionBusy []
      else if p.monitor.state = .tripped ∨ p.monitor.state = .checking ∨ p.heat.burstOrder ≠ []
          ∨ p.locator.active = true then
        s.answers p c rest .wrongState []
      else s.answers q.finish c rest .ok
        (match p.monitor.table with
        | none => [0#8, 0#8, 0#8, 0#8, 0#8]
        | some t => beBytes 2 t.table.acceptBand.1 ++ beBytes 2 t.table.acceptBand.2
          ++ [countByte t.table.samples]))
      ∧ q.monitor.state = .checking ∧ q.monitor.checkCount = 0

/-- Tier 2. R155: LOCATE_NOW sets the pending latch, or is refused. R143, R145: a handed sample starts a procedure
when the latch is set. R146: a step sheds its branch, or SKIPPED passes on one that is not commanded CLOSED; past the
last entry the verdict is BUS. R147 to R149: a step follows the end of its own branch's change to OPEN and back to
CLOSED, an uncommanded movement, and the handed samples. R150, R151: the verdicts with their fault list entries. R152:
an abandonment clears the tested branch's shed flag and sets or clears the latch. R153: the end of a procedure. R154:
the fault list keeps 12 entries and drops the oldest that is not live. A branch of the session's own that fails to
open or moves is left to the termination that this brings (R147, R148). A failed restore advances whatever the branch,
and when the session owns it, the session is terminated first, which is the model's choice (log 28). The answer's flag
takes one byte (log 44). The context fields stay after the end (log 24), and LOCATE_RESULT comes before the
resumption's notices (log 13). -/
def Obligations.LocateNowSetsLatch : Prop :=
  (∀ (c : Frame) (rest : List Frame) (s : Machine.State), s.part.Admits .locateNow c rest →
    let p := s.part
    exec .locateNow s =
      if p.monitor.state = .tripped then s.answers p c rest .tripped []
      else if p.monitor.state = .faulty then s.answers p c rest .monitorFault []
      else if p.locator.active = true then s.answers p c rest .wrongState []
      else s.answers { p with locator := { p.locator with latch := true } } c rest .ok
        [p.monitor.state.code, flagByte p.locator.latch])
    ∧ (∀ (p : Machine.Part) (t : InsulationTable) (est : Nat) (latched : Bool),
      let begun : Machine.Part := { p with locator := { p.locator with
        latch := false
        active := true
        cursor := 0
        phase := .shedding
        sampleCount := 0
        results := List.replicate 7 .notReached
        before := est
        last := est
        recordNumber := p.store.opened.elim 0 fun r => r.number } }
      let told := ((begun.addCause .locate).endBursts .shed).clearDemand
      let frozen : Machine.Part := { told with budget := { told.budget with freeze := true, recomputeDue := true } }
      (p.locator.active = true → p.handToLocator t est latched = p.stepSample t est)
        ∧ (p.locator.active = false → latched = false → p.handToLocator t est latched = p)
        ∧ (p.locator.active = false → latched = true → p.handToLocator t est latched =
          Part.beginStep (p.monitor.table.elim [] fun t => t.table.shedList) 0 frozen))
    ∧ (∀ (p : Machine.Part) (cursor : Nat) (b : Branch) (rest : List Branch),
      let e := p.branch b
      let closes := (e.claimPart = true ∨ e.claimSession = true) ∧ e.shed = false ∧ e.quarantine = false
        ∧ p.mgmt.partState = .run ∧ p.monitor.state ≠ .tripped
      Part.beginStep [] cursor p = p.verdictBus
        ∧ (¬ closes → Part.beginStep (b :: rest) cursor p = Part.beginStep rest (cursor + 1)
          { p with locator := { p.locator with
            cursor := cursor, results := p.locator.results.set cursor .skipped } })
        ∧ (closes → Part.beginStep (b :: rest) cursor p = ({ p with locator := { p.locator with
          cursor := cursor, phase := .shedding, sampleCount := 0 } } : Machine.Part).modBranch b
            fun e => { e with shed := true }))
    ∧ (∀ (p : Machine.Part) (b : Branch),
      let l := p.locator
      let list := p.monitor.table.elim [] fun t => t.table.shedList
      let tests := l.active = true ∧ list[l.cursor]? = some b
      let own := (p.session.state = .connecting ∨ p.session.state = .preheat ∨ p.session.state = .charging
        ∨ p.session.state = .suspended) ∧ ∃ k : ChargeKind, p.session.kindActual = some k ∧ k.branch = b
      let advance (q : Machine.Part) := Part.beginStep (list.drop (l.cursor + 1)) (l.cursor + 1) q
      let unshed (q : Machine.Part) := q.modBranch b fun e => { e with shed := false }
      let marked (r : StepResult) : Machine.Part :=
        { p with locator := { l with results := l.results.set l.cursor r } }
      (¬ tests → (∀ closed, p.locateConfirmed b closed = p ∧ p.locateFailed b closed = p) ∧ p.locateMoved b = p)
        ∧ (tests → l.phase = .shedding →
          p.locateConfirmed b false = { p with locator := { l with phase := .settling, sampleCount := 0 } }
            ∧ p.locateConfirmed b true = p ∧ p.locateFailed b true = p ∧ p.locateMoved b = p
            ∧ (own → p.locateFailed b false = marked .notIsolated)
            ∧ (¬ own → p.locateFailed b false = advance (unshed (marked .notIsolated))))
        ∧ (tests → l.phase = .settling ∨ l.phase = .confirming →
          (∀ closed, p.locateConfirmed b closed = p ∧ p.locateFailed b closed = p)
            ∧ (own → p.locateMoved b = marked .notIsolated)
            ∧ (¬ own → p.locateMoved b = advance (unshed (marked .notIsolated))))
        ∧ (tests → l.phase = .restoring →
          p.locateConfirmed b true = advance p ∧ p.locateConfirmed b false = p ∧ p.locateFailed b false = p
            ∧ p.locateMoved b = p ∧ (own → p.locateFailed b true = advance (p.terminate .contactor))
            ∧ (¬ own → p.locateFailed b true = advance p)))
    ∧ (∀ (p : Machine.Part) (t : InsulationTable) (est : Nat) (b : Branch),
      let l := p.locator
      let list := p.monitor.table.elim [] fun t => t.table.shedList
      let r := t.record p.monitor.context
      let limit := r.warn + r.warn / 8
      let counted : Machine.Part := { p with locator := { l with last := est, sampleCount := l.sampleCount + 1 } }
      let restored : Machine.Part := ({ p with locator := { l with
        last := est
        results := l.results.set l.cursor .faultRemains
        phase := .restoring
        sampleCount := 0 } } : Machine.Part).modBranch b fun e => { e with shed := false }
      list[l.cursor]? = some b →
      (l.phase = .shedding ∨ l.phase = .restoring →
        p.stepSample t est = { p with locator := { l with last := est } })
        ∧ (l.phase = .settling → p.stepSample t est = if l.sampleCount + 1 < t.locateSettle then counted
          else { p with locator := { l with last := est, phase := .confirming, sampleCount := 0 } })
        ∧ (l.phase = .confirming → limit ≤ est → p.stepSample t est =
          if l.sampleCount + 1 < t.locateConfirm then counted else counted.verdictQuarantined b est)
        ∧ (l.phase = .confirming → est < limit → p.stepSample t est = if restored.shouldClose b then restored
          else Part.beginStep (list.drop (l.cursor + 1)) (l.cursor + 1) restored))
    ∧ (∀ (p : Machine.Part) (b : Branch) (est : Nat),
      let l := p.locator
      let q := p.verdictQuarantined b est
      q.locator.active = false ∧ q.budget.freeze = false ∧ q.locator.latch = l.latch ∧ q.locator.inert = l.inert
        ∧ q.locator.results = l.results.set l.cursor .culprit
        ∧ q.locator.faults = addFault l.faults
          ⟨some b, .quarantined, l.before, est, p.meter.clock, l.recordNumber, true⟩
        ∧ (q.branch b).quarantine = true ∧ (q.branch b).shed = false
        ∧ (∀ z, b.zone = some z → (q.zone z).state = .quarantined ∧ (q.zone z).demand = false)
        ∧ (b = .cargo → q.budget.window = [])
        ∧ (p.ownsInlet b = true → b ≠ .cargo → b.zone = none →
          q.session.state = .closed ∨ (q.session.state = .ending ∧ q.session.cause = some .quarantined)))
    ∧ (∀ p : Machine.Part,
      let l := p.locator
      let q := p.verdictBus
      q.locator.active = false ∧ q.budget.freeze = false ∧ q.locator.results = l.results
        ∧ q.locator.inert = (l.inert || p.monitor.state == .warning)
        ∧ q.locator.faults = addFault l.faults
          ⟨none, .bus, l.before, l.last, p.meter.clock, l.recordNumber, false⟩
        ∧ ∀ b, (q.branch b).quarantine = (p.branch b).quarantine ∧ (q.branch b).shed = (p.branch b).shed)
    ∧ (∀ (p : Machine.Part) (reason : AbandonReason),
      let l := p.locator
      let list := p.monitor.table.elim [] fun t => t.table.shedList
      let q := p.abandon reason
      (l.active = false → q = p)
        ∧ (l.active = true → q.locator = { l with
          active := false, latch := decide (reason = .context ∨ reason = .unknown) })
        ∧ (l.active = true → q.budget.freeze = false
          ∧ ∀ b, list[l.cursor]? = some b → (q.branch b).shed = false))
    ∧ (∀ (p : Machine.Part) (how : LocateEnd),
      let l := p.locator
      let q : Machine.Part := { p with
        locator := { l with active := false }
        budget := { p.budget with freeze := false, recomputeDue := true } }
      let r := (q.raise (.locateResult how l.before l.last l.results l.recordNumber)).removeCause .locate
      p.endProcedure how = { r with heat := { r.heat with demandDue := true } })
    ∧ (∀ (faults : List FaultEntry) (n : FaultEntry), faults.length < 12 → addFault faults n = faults ++ [n])
    ∧ ∀ (before behind : List FaultEntry) (old n : FaultEntry), (∀ e ∈ before, e.live = true) → old.live = false →
      12 ≤ (before ++ old :: behind).length → addFault (before ++ old :: behind) n = before ++ behind ++ [n]

/-- Tier 2. R156, R112: RESTORE_BRANCH and its refusals; taken, the branch's quarantine flag and the live flag of its
fault entry clear, no entry leaves the list, and no other branch's quarantine changes. That the answer's fault index
takes one byte is the model's choice (log 44). -/
def Obligations.RestoreBranchClearsQuarantine : Prop :=
  ∀ (c : Frame) (rest : List Frame) (s : Machine.State), s.part.Admits .restoreBranch c rest →
    let p := s.part
    exec .restoreBranch s =
      (match Branch.ofSheddableCode (u8 c.payload 3) with
      | none => s.answers p c rest .range []
      | some b =>
        if p.locator.active = true then s.answers p c rest .wrongState []
        else if (p.branch b).quarantine = false then s.answers p c rest .notFound []
        else s.answers (p.restoreBranch b).finish c rest .ok [p.liveIndex b])
      ∧ ∀ b,
        let q := p.restoreBranch b
        (q.branch b).quarantine = false ∧ (∀ a, a ≠ b → q.branch a = p.branch a)
          ∧ q.locator.faults = p.locator.faults.map
            (fun e => if e.live = true ∧ e.branch = some b then { e with live := false } else e)
          ∧ q.locator.latch = p.locator.latch ∧ q.locator.inert = p.locator.inert
          ∧ (∀ z, b.zone = some z → (q.zone z).state = .off)

end
end

