-- ==== Sys2Proof/Laws/Drives.lean ====
section
/-! SUPPORT. The coalescing of the drive queue (R24): every function waits at most once. -/

namespace Sys2Proof.Machine

theorem Drive.sameFunction_comm (a b : Drive) : a.sameFunction b = b.sameFunction a := by
  cases a <;> cases b <;> rfl

theorem Drive.sameFunction_congr {a b : Drive} (h : a.sameFunction b = true) (c : Drive) :
    a.sameFunction c = b.sameFunction c := by
  cases a <;> cases b <;> first | (cases c <;> rfl) | cases h

/-- A waiting drive of the function of the new one is replaced, any other is kept. -/
theorem replace_sameFunction (d e c : Drive) :
    (if e.sameFunction d then d else e).sameFunction c = e.sameFunction c := by
  split
  · next h => exact (Drive.sameFunction_congr h c).symm
  · rfl

/-- R24: coalescing keeps each function waiting at most once, and adds no second one. -/
theorem singleDrives_coalesce (q : List Drive) (d : Drive) : singleDrives (coalesce q d) ↔ singleDrives q := by
  unfold coalesce singleDrives
  split
  · rw [List.pairwise_map]
    refine iff_of_eq (congrArg (fun r => List.Pairwise r q) ?_)
    funext a b
    rw [replace_sameFunction, Drive.sameFunction_comm a, replace_sameFunction, Drive.sameFunction_comm b]
  · next h =>
    rw [List.pairwise_append]
    constructor
    · exact fun x => x.1
    · intro x
      refine ⟨x, List.pairwise_singleton .., ?_⟩
      intro a ha b hb
      rw [List.mem_singleton] at hb
      subst hb
      exact Bool.eq_false_iff.mpr fun e => h (List.any_eq_true.mpr ⟨a, ha, e⟩)

/-- A drive that leaves, or is withdrawn, leaves the others single. -/
theorem singleDrives_sublist {q r : List Drive} (h : r.Sublist q) (hq : singleDrives q) : singleDrives r :=
  hq.sublist h

end Sys2Proof.Machine
end

