-- ==== Sys2Proof/Laws/Families.lean ====
section
/-! SUPPORT. Reading a family after one of its members was replaced, or after a function was applied to each. -/

namespace Sys2Proof.Machine

@[simp] theorem PerRole.get_set_same {α : Type} (m : PerRole α) (r : Role) (a : α) : (m.set r a).get r = a := by
  cases r <;> rfl

theorem PerRole.get_set_other {α : Type} (m : PerRole α) (r t : Role) (a : α) (h : t ≠ r) :
    (m.set r a).get t = m.get t := by
  cases r <;> cases t <;> first | rfl | exact absurd rfl h

@[simp] theorem PerRole.get_map {α β : Type} (f : α → β) (m : PerRole α) (r : Role) :
    (m.map f).get r = f (m.get r) := by
  cases r <;> rfl

@[simp] theorem PerBranch.get_set_same {α : Type} (m : PerBranch α) (b : Branch) (a : α) :
    (m.set b a).get b = a := by
  cases b <;> rfl

theorem PerBranch.get_set_other {α : Type} (m : PerBranch α) (b c : Branch) (a : α) (h : c ≠ b) :
    (m.set b a).get c = m.get c := by
  cases b <;> cases c <;> first | rfl | exact absurd rfl h

@[simp] theorem PerBranch.get_map {α β : Type} (f : α → β) (m : PerBranch α) (b : Branch) :
    (m.map f).get b = f (m.get b) := by
  cases b <;> rfl

@[simp] theorem PerBranch.get_fill {α : Type} (a : α) (b : Branch) : (PerBranch.fill a).get b = a := by
  cases b <;> rfl

@[simp] theorem PerZone.get_set_same {α : Type} (m : PerZone α) (z : Zone) (a : α) : (m.set z a).get z = a := by
  cases z <;> rfl

theorem PerZone.get_set_other {α : Type} (m : PerZone α) (z y : Zone) (a : α) (h : y ≠ z) :
    (m.set z a).get y = m.get y := by
  cases z <;> cases y <;> first | rfl | exact absurd rfl h

@[simp] theorem PerZone.get_map {α β : Type} (f : α → β) (m : PerZone α) (z : Zone) :
    (m.map f).get z = f (m.get z) := by
  cases z <;> rfl

@[simp] theorem PerZone.get_fill {α : Type} (a : α) (z : Zone) : (PerZone.fill a).get z = a := by
  cases z <;> rfl

end Sys2Proof.Machine
end

