-- ==== Sys2Proof/Laws/State.lean ====
section
/-! SUPPORT. What each update of one block reads back as, field by field: true by definition, and named so
that no later proof unfolds a record update. -/

namespace Sys2Proof.Machine

/-! ### modChain -/

@[simp] theorem Part.modChain_chain (p : Part) (g : ChainPort → ChainPort) : (p.modChain g).chain = g p.chain := rfl
@[simp] theorem Part.modChain_now (p : Part) (g : ChainPort → ChainPort) : (p.modChain g).now = p.now := rfl
@[simp] theorem Part.modChain_nodes (p : Part) (g : ChainPort → ChainPort) : (p.modChain g).nodes = p.nodes := rfl
@[simp] theorem Part.modChain_clamp (p : Part) (g : ChainPort → ChainPort) : (p.modChain g).clamp = p.clamp := rfl
@[simp] theorem Part.modChain_drive (p : Part) (g : ChainPort → ChainPort) : (p.modChain g).drive = p.drive := rfl
@[simp] theorem Part.modChain_meter (p : Part) (g : ChainPort → ChainPort) : (p.modChain g).meter = p.meter := rfl
@[simp] theorem Part.modChain_budget (p : Part) (g : ChainPort → ChainPort) : (p.modChain g).budget = p.budget := rfl
@[simp] theorem Part.modChain_session (p : Part) (g : ChainPort → ChainPort) : (p.modChain g).session = p.session := rfl
@[simp] theorem Part.modChain_heat (p : Part) (g : ChainPort → ChainPort) : (p.modChain g).heat = p.heat := rfl
@[simp] theorem Part.modChain_monitor (p : Part) (g : ChainPort → ChainPort) : (p.modChain g).monitor = p.monitor := rfl
@[simp] theorem Part.modChain_locator (p : Part) (g : ChainPort → ChainPort) : (p.modChain g).locator = p.locator := rfl
@[simp] theorem Part.modChain_store (p : Part) (g : ChainPort → ChainPort) : (p.modChain g).store = p.store := rfl
@[simp] theorem Part.modChain_mgmt (p : Part) (g : ChainPort → ChainPort) : (p.modChain g).mgmt = p.mgmt := rfl

/-! ### modNodes -/

@[simp] theorem Part.modNodes_nodes (p : Part) (g : NodeTable → NodeTable) : (p.modNodes g).nodes = g p.nodes := rfl
@[simp] theorem Part.modNodes_now (p : Part) (g : NodeTable → NodeTable) : (p.modNodes g).now = p.now := rfl
@[simp] theorem Part.modNodes_chain (p : Part) (g : NodeTable → NodeTable) : (p.modNodes g).chain = p.chain := rfl
@[simp] theorem Part.modNodes_clamp (p : Part) (g : NodeTable → NodeTable) : (p.modNodes g).clamp = p.clamp := rfl
@[simp] theorem Part.modNodes_drive (p : Part) (g : NodeTable → NodeTable) : (p.modNodes g).drive = p.drive := rfl
@[simp] theorem Part.modNodes_meter (p : Part) (g : NodeTable → NodeTable) : (p.modNodes g).meter = p.meter := rfl
@[simp] theorem Part.modNodes_budget (p : Part) (g : NodeTable → NodeTable) : (p.modNodes g).budget = p.budget := rfl
@[simp] theorem Part.modNodes_session (p : Part) (g : NodeTable → NodeTable) : (p.modNodes g).session = p.session := rfl
@[simp] theorem Part.modNodes_heat (p : Part) (g : NodeTable → NodeTable) : (p.modNodes g).heat = p.heat := rfl
@[simp] theorem Part.modNodes_monitor (p : Part) (g : NodeTable → NodeTable) : (p.modNodes g).monitor = p.monitor := rfl
@[simp] theorem Part.modNodes_locator (p : Part) (g : NodeTable → NodeTable) : (p.modNodes g).locator = p.locator := rfl
@[simp] theorem Part.modNodes_store (p : Part) (g : NodeTable → NodeTable) : (p.modNodes g).store = p.store := rfl
@[simp] theorem Part.modNodes_mgmt (p : Part) (g : NodeTable → NodeTable) : (p.modNodes g).mgmt = p.mgmt := rfl

/-! ### modClamp -/

@[simp] theorem Part.modClamp_clamp (p : Part) (g : OrderClamp → OrderClamp) : (p.modClamp g).clamp = g p.clamp := rfl
@[simp] theorem Part.modClamp_now (p : Part) (g : OrderClamp → OrderClamp) : (p.modClamp g).now = p.now := rfl
@[simp] theorem Part.modClamp_chain (p : Part) (g : OrderClamp → OrderClamp) : (p.modClamp g).chain = p.chain := rfl
@[simp] theorem Part.modClamp_nodes (p : Part) (g : OrderClamp → OrderClamp) : (p.modClamp g).nodes = p.nodes := rfl
@[simp] theorem Part.modClamp_drive (p : Part) (g : OrderClamp → OrderClamp) : (p.modClamp g).drive = p.drive := rfl
@[simp] theorem Part.modClamp_meter (p : Part) (g : OrderClamp → OrderClamp) : (p.modClamp g).meter = p.meter := rfl
@[simp] theorem Part.modClamp_budget (p : Part) (g : OrderClamp → OrderClamp) : (p.modClamp g).budget = p.budget := rfl
@[simp] theorem Part.modClamp_session (p : Part) (g : OrderClamp → OrderClamp) : (p.modClamp g).session = p.session := rfl
@[simp] theorem Part.modClamp_heat (p : Part) (g : OrderClamp → OrderClamp) : (p.modClamp g).heat = p.heat := rfl
@[simp] theorem Part.modClamp_monitor (p : Part) (g : OrderClamp → OrderClamp) : (p.modClamp g).monitor = p.monitor := rfl
@[simp] theorem Part.modClamp_locator (p : Part) (g : OrderClamp → OrderClamp) : (p.modClamp g).locator = p.locator := rfl
@[simp] theorem Part.modClamp_store (p : Part) (g : OrderClamp → OrderClamp) : (p.modClamp g).store = p.store := rfl
@[simp] theorem Part.modClamp_mgmt (p : Part) (g : OrderClamp → OrderClamp) : (p.modClamp g).mgmt = p.mgmt := rfl

/-! ### modDrive -/

@[simp] theorem Part.modDrive_drive (p : Part) (g : DriveUnit → DriveUnit) : (p.modDrive g).drive = g p.drive := rfl
@[simp] theorem Part.modDrive_now (p : Part) (g : DriveUnit → DriveUnit) : (p.modDrive g).now = p.now := rfl
@[simp] theorem Part.modDrive_chain (p : Part) (g : DriveUnit → DriveUnit) : (p.modDrive g).chain = p.chain := rfl
@[simp] theorem Part.modDrive_nodes (p : Part) (g : DriveUnit → DriveUnit) : (p.modDrive g).nodes = p.nodes := rfl
@[simp] theorem Part.modDrive_clamp (p : Part) (g : DriveUnit → DriveUnit) : (p.modDrive g).clamp = p.clamp := rfl
@[simp] theorem Part.modDrive_meter (p : Part) (g : DriveUnit → DriveUnit) : (p.modDrive g).meter = p.meter := rfl
@[simp] theorem Part.modDrive_budget (p : Part) (g : DriveUnit → DriveUnit) : (p.modDrive g).budget = p.budget := rfl
@[simp] theorem Part.modDrive_session (p : Part) (g : DriveUnit → DriveUnit) : (p.modDrive g).session = p.session := rfl
@[simp] theorem Part.modDrive_heat (p : Part) (g : DriveUnit → DriveUnit) : (p.modDrive g).heat = p.heat := rfl
@[simp] theorem Part.modDrive_monitor (p : Part) (g : DriveUnit → DriveUnit) : (p.modDrive g).monitor = p.monitor := rfl
@[simp] theorem Part.modDrive_locator (p : Part) (g : DriveUnit → DriveUnit) : (p.modDrive g).locator = p.locator := rfl
@[simp] theorem Part.modDrive_store (p : Part) (g : DriveUnit → DriveUnit) : (p.modDrive g).store = p.store := rfl
@[simp] theorem Part.modDrive_mgmt (p : Part) (g : DriveUnit → DriveUnit) : (p.modDrive g).mgmt = p.mgmt := rfl

/-! ### modMeter -/

@[simp] theorem Part.modMeter_meter (p : Part) (g : Metering → Metering) : (p.modMeter g).meter = g p.meter := rfl
@[simp] theorem Part.modMeter_now (p : Part) (g : Metering → Metering) : (p.modMeter g).now = p.now := rfl
@[simp] theorem Part.modMeter_chain (p : Part) (g : Metering → Metering) : (p.modMeter g).chain = p.chain := rfl
@[simp] theorem Part.modMeter_nodes (p : Part) (g : Metering → Metering) : (p.modMeter g).nodes = p.nodes := rfl
@[simp] theorem Part.modMeter_clamp (p : Part) (g : Metering → Metering) : (p.modMeter g).clamp = p.clamp := rfl
@[simp] theorem Part.modMeter_drive (p : Part) (g : Metering → Metering) : (p.modMeter g).drive = p.drive := rfl
@[simp] theorem Part.modMeter_budget (p : Part) (g : Metering → Metering) : (p.modMeter g).budget = p.budget := rfl
@[simp] theorem Part.modMeter_session (p : Part) (g : Metering → Metering) : (p.modMeter g).session = p.session := rfl
@[simp] theorem Part.modMeter_heat (p : Part) (g : Metering → Metering) : (p.modMeter g).heat = p.heat := rfl
@[simp] theorem Part.modMeter_monitor (p : Part) (g : Metering → Metering) : (p.modMeter g).monitor = p.monitor := rfl
@[simp] theorem Part.modMeter_locator (p : Part) (g : Metering → Metering) : (p.modMeter g).locator = p.locator := rfl
@[simp] theorem Part.modMeter_store (p : Part) (g : Metering → Metering) : (p.modMeter g).store = p.store := rfl
@[simp] theorem Part.modMeter_mgmt (p : Part) (g : Metering → Metering) : (p.modMeter g).mgmt = p.mgmt := rfl

/-! ### modBudget -/

@[simp] theorem Part.modBudget_budget (p : Part) (g : Budget → Budget) : (p.modBudget g).budget = g p.budget := rfl
@[simp] theorem Part.modBudget_now (p : Part) (g : Budget → Budget) : (p.modBudget g).now = p.now := rfl
@[simp] theorem Part.modBudget_chain (p : Part) (g : Budget → Budget) : (p.modBudget g).chain = p.chain := rfl
@[simp] theorem Part.modBudget_nodes (p : Part) (g : Budget → Budget) : (p.modBudget g).nodes = p.nodes := rfl
@[simp] theorem Part.modBudget_clamp (p : Part) (g : Budget → Budget) : (p.modBudget g).clamp = p.clamp := rfl
@[simp] theorem Part.modBudget_drive (p : Part) (g : Budget → Budget) : (p.modBudget g).drive = p.drive := rfl
@[simp] theorem Part.modBudget_meter (p : Part) (g : Budget → Budget) : (p.modBudget g).meter = p.meter := rfl
@[simp] theorem Part.modBudget_session (p : Part) (g : Budget → Budget) : (p.modBudget g).session = p.session := rfl
@[simp] theorem Part.modBudget_heat (p : Part) (g : Budget → Budget) : (p.modBudget g).heat = p.heat := rfl
@[simp] theorem Part.modBudget_monitor (p : Part) (g : Budget → Budget) : (p.modBudget g).monitor = p.monitor := rfl
@[simp] theorem Part.modBudget_locator (p : Part) (g : Budget → Budget) : (p.modBudget g).locator = p.locator := rfl
@[simp] theorem Part.modBudget_store (p : Part) (g : Budget → Budget) : (p.modBudget g).store = p.store := rfl
@[simp] theorem Part.modBudget_mgmt (p : Part) (g : Budget → Budget) : (p.modBudget g).mgmt = p.mgmt := rfl

/-! ### modSession -/

@[simp] theorem Part.modSession_session (p : Part) (g : Session → Session) : (p.modSession g).session = g p.session := rfl
@[simp] theorem Part.modSession_now (p : Part) (g : Session → Session) : (p.modSession g).now = p.now := rfl
@[simp] theorem Part.modSession_chain (p : Part) (g : Session → Session) : (p.modSession g).chain = p.chain := rfl
@[simp] theorem Part.modSession_nodes (p : Part) (g : Session → Session) : (p.modSession g).nodes = p.nodes := rfl
@[simp] theorem Part.modSession_clamp (p : Part) (g : Session → Session) : (p.modSession g).clamp = p.clamp := rfl
@[simp] theorem Part.modSession_drive (p : Part) (g : Session → Session) : (p.modSession g).drive = p.drive := rfl
@[simp] theorem Part.modSession_meter (p : Part) (g : Session → Session) : (p.modSession g).meter = p.meter := rfl
@[simp] theorem Part.modSession_budget (p : Part) (g : Session → Session) : (p.modSession g).budget = p.budget := rfl
@[simp] theorem Part.modSession_heat (p : Part) (g : Session → Session) : (p.modSession g).heat = p.heat := rfl
@[simp] theorem Part.modSession_monitor (p : Part) (g : Session → Session) : (p.modSession g).monitor = p.monitor := rfl
@[simp] theorem Part.modSession_locator (p : Part) (g : Session → Session) : (p.modSession g).locator = p.locator := rfl
@[simp] theorem Part.modSession_store (p : Part) (g : Session → Session) : (p.modSession g).store = p.store := rfl
@[simp] theorem Part.modSession_mgmt (p : Part) (g : Session → Session) : (p.modSession g).mgmt = p.mgmt := rfl

/-! ### modHeat -/

@[simp] theorem Part.modHeat_heat (p : Part) (g : Heating → Heating) : (p.modHeat g).heat = g p.heat := rfl
@[simp] theorem Part.modHeat_now (p : Part) (g : Heating → Heating) : (p.modHeat g).now = p.now := rfl
@[simp] theorem Part.modHeat_chain (p : Part) (g : Heating → Heating) : (p.modHeat g).chain = p.chain := rfl
@[simp] theorem Part.modHeat_nodes (p : Part) (g : Heating → Heating) : (p.modHeat g).nodes = p.nodes := rfl
@[simp] theorem Part.modHeat_clamp (p : Part) (g : Heating → Heating) : (p.modHeat g).clamp = p.clamp := rfl
@[simp] theorem Part.modHeat_drive (p : Part) (g : Heating → Heating) : (p.modHeat g).drive = p.drive := rfl
@[simp] theorem Part.modHeat_meter (p : Part) (g : Heating → Heating) : (p.modHeat g).meter = p.meter := rfl
@[simp] theorem Part.modHeat_budget (p : Part) (g : Heating → Heating) : (p.modHeat g).budget = p.budget := rfl
@[simp] theorem Part.modHeat_session (p : Part) (g : Heating → Heating) : (p.modHeat g).session = p.session := rfl
@[simp] theorem Part.modHeat_monitor (p : Part) (g : Heating → Heating) : (p.modHeat g).monitor = p.monitor := rfl
@[simp] theorem Part.modHeat_locator (p : Part) (g : Heating → Heating) : (p.modHeat g).locator = p.locator := rfl
@[simp] theorem Part.modHeat_store (p : Part) (g : Heating → Heating) : (p.modHeat g).store = p.store := rfl
@[simp] theorem Part.modHeat_mgmt (p : Part) (g : Heating → Heating) : (p.modHeat g).mgmt = p.mgmt := rfl

/-! ### modMonitor -/

@[simp] theorem Part.modMonitor_monitor (p : Part) (g : Monitor → Monitor) : (p.modMonitor g).monitor = g p.monitor := rfl
@[simp] theorem Part.modMonitor_now (p : Part) (g : Monitor → Monitor) : (p.modMonitor g).now = p.now := rfl
@[simp] theorem Part.modMonitor_chain (p : Part) (g : Monitor → Monitor) : (p.modMonitor g).chain = p.chain := rfl
@[simp] theorem Part.modMonitor_nodes (p : Part) (g : Monitor → Monitor) : (p.modMonitor g).nodes = p.nodes := rfl
@[simp] theorem Part.modMonitor_clamp (p : Part) (g : Monitor → Monitor) : (p.modMonitor g).clamp = p.clamp := rfl
@[simp] theorem Part.modMonitor_drive (p : Part) (g : Monitor → Monitor) : (p.modMonitor g).drive = p.drive := rfl
@[simp] theorem Part.modMonitor_meter (p : Part) (g : Monitor → Monitor) : (p.modMonitor g).meter = p.meter := rfl
@[simp] theorem Part.modMonitor_budget (p : Part) (g : Monitor → Monitor) : (p.modMonitor g).budget = p.budget := rfl
@[simp] theorem Part.modMonitor_session (p : Part) (g : Monitor → Monitor) : (p.modMonitor g).session = p.session := rfl
@[simp] theorem Part.modMonitor_heat (p : Part) (g : Monitor → Monitor) : (p.modMonitor g).heat = p.heat := rfl
@[simp] theorem Part.modMonitor_locator (p : Part) (g : Monitor → Monitor) : (p.modMonitor g).locator = p.locator := rfl
@[simp] theorem Part.modMonitor_store (p : Part) (g : Monitor → Monitor) : (p.modMonitor g).store = p.store := rfl
@[simp] theorem Part.modMonitor_mgmt (p : Part) (g : Monitor → Monitor) : (p.modMonitor g).mgmt = p.mgmt := rfl

/-! ### modLocator -/

@[simp] theorem Part.modLocator_locator (p : Part) (g : Locator → Locator) : (p.modLocator g).locator = g p.locator := rfl
@[simp] theorem Part.modLocator_now (p : Part) (g : Locator → Locator) : (p.modLocator g).now = p.now := rfl
@[simp] theorem Part.modLocator_chain (p : Part) (g : Locator → Locator) : (p.modLocator g).chain = p.chain := rfl
@[simp] theorem Part.modLocator_nodes (p : Part) (g : Locator → Locator) : (p.modLocator g).nodes = p.nodes := rfl
@[simp] theorem Part.modLocator_clamp (p : Part) (g : Locator → Locator) : (p.modLocator g).clamp = p.clamp := rfl
@[simp] theorem Part.modLocator_drive (p : Part) (g : Locator → Locator) : (p.modLocator g).drive = p.drive := rfl
@[simp] theorem Part.modLocator_meter (p : Part) (g : Locator → Locator) : (p.modLocator g).meter = p.meter := rfl
@[simp] theorem Part.modLocator_budget (p : Part) (g : Locator → Locator) : (p.modLocator g).budget = p.budget := rfl
@[simp] theorem Part.modLocator_session (p : Part) (g : Locator → Locator) : (p.modLocator g).session = p.session := rfl
@[simp] theorem Part.modLocator_heat (p : Part) (g : Locator → Locator) : (p.modLocator g).heat = p.heat := rfl
@[simp] theorem Part.modLocator_monitor (p : Part) (g : Locator → Locator) : (p.modLocator g).monitor = p.monitor := rfl
@[simp] theorem Part.modLocator_store (p : Part) (g : Locator → Locator) : (p.modLocator g).store = p.store := rfl
@[simp] theorem Part.modLocator_mgmt (p : Part) (g : Locator → Locator) : (p.modLocator g).mgmt = p.mgmt := rfl

/-! ### modStore -/

@[simp] theorem Part.modStore_store (p : Part) (g : RecordStore → RecordStore) : (p.modStore g).store = g p.store := rfl
@[simp] theorem Part.modStore_now (p : Part) (g : RecordStore → RecordStore) : (p.modStore g).now = p.now := rfl
@[simp] theorem Part.modStore_chain (p : Part) (g : RecordStore → RecordStore) : (p.modStore g).chain = p.chain := rfl
@[simp] theorem Part.modStore_nodes (p : Part) (g : RecordStore → RecordStore) : (p.modStore g).nodes = p.nodes := rfl
@[simp] theorem Part.modStore_clamp (p : Part) (g : RecordStore → RecordStore) : (p.modStore g).clamp = p.clamp := rfl
@[simp] theorem Part.modStore_drive (p : Part) (g : RecordStore → RecordStore) : (p.modStore g).drive = p.drive := rfl
@[simp] theorem Part.modStore_meter (p : Part) (g : RecordStore → RecordStore) : (p.modStore g).meter = p.meter := rfl
@[simp] theorem Part.modStore_budget (p : Part) (g : RecordStore → RecordStore) : (p.modStore g).budget = p.budget := rfl
@[simp] theorem Part.modStore_session (p : Part) (g : RecordStore → RecordStore) : (p.modStore g).session = p.session := rfl
@[simp] theorem Part.modStore_heat (p : Part) (g : RecordStore → RecordStore) : (p.modStore g).heat = p.heat := rfl
@[simp] theorem Part.modStore_monitor (p : Part) (g : RecordStore → RecordStore) : (p.modStore g).monitor = p.monitor := rfl
@[simp] theorem Part.modStore_locator (p : Part) (g : RecordStore → RecordStore) : (p.modStore g).locator = p.locator := rfl
@[simp] theorem Part.modStore_mgmt (p : Part) (g : RecordStore → RecordStore) : (p.modStore g).mgmt = p.mgmt := rfl

/-! ### modMgmt -/

@[simp] theorem Part.modMgmt_mgmt (p : Part) (g : Management → Management) : (p.modMgmt g).mgmt = g p.mgmt := rfl
@[simp] theorem Part.modMgmt_now (p : Part) (g : Management → Management) : (p.modMgmt g).now = p.now := rfl
@[simp] theorem Part.modMgmt_chain (p : Part) (g : Management → Management) : (p.modMgmt g).chain = p.chain := rfl
@[simp] theorem Part.modMgmt_nodes (p : Part) (g : Management → Management) : (p.modMgmt g).nodes = p.nodes := rfl
@[simp] theorem Part.modMgmt_clamp (p : Part) (g : Management → Management) : (p.modMgmt g).clamp = p.clamp := rfl
@[simp] theorem Part.modMgmt_drive (p : Part) (g : Management → Management) : (p.modMgmt g).drive = p.drive := rfl
@[simp] theorem Part.modMgmt_meter (p : Part) (g : Management → Management) : (p.modMgmt g).meter = p.meter := rfl
@[simp] theorem Part.modMgmt_budget (p : Part) (g : Management → Management) : (p.modMgmt g).budget = p.budget := rfl
@[simp] theorem Part.modMgmt_session (p : Part) (g : Management → Management) : (p.modMgmt g).session = p.session := rfl
@[simp] theorem Part.modMgmt_heat (p : Part) (g : Management → Management) : (p.modMgmt g).heat = p.heat := rfl
@[simp] theorem Part.modMgmt_monitor (p : Part) (g : Management → Management) : (p.modMgmt g).monitor = p.monitor := rfl
@[simp] theorem Part.modMgmt_locator (p : Part) (g : Management → Management) : (p.modMgmt g).locator = p.locator := rfl
@[simp] theorem Part.modMgmt_store (p : Part) (g : Management → Management) : (p.modMgmt g).store = p.store := rfl

/-! ### modBranch -/

@[simp] theorem Part.modBranch_drive (p : Part) (b : Branch) (g : BranchEntry → BranchEntry) :
    (p.modBranch b g).drive = { p.drive with branches := p.drive.branches.set b (g (p.drive.branches.get b)) } := rfl
@[simp] theorem Part.modBranch_now (p : Part) (b : Branch) (g : BranchEntry → BranchEntry) : (p.modBranch b g).now = p.now := rfl
@[simp] theorem Part.modBranch_chain (p : Part) (b : Branch) (g : BranchEntry → BranchEntry) : (p.modBranch b g).chain = p.chain := rfl
@[simp] theorem Part.modBranch_nodes (p : Part) (b : Branch) (g : BranchEntry → BranchEntry) : (p.modBranch b g).nodes = p.nodes := rfl
@[simp] theorem Part.modBranch_clamp (p : Part) (b : Branch) (g : BranchEntry → BranchEntry) : (p.modBranch b g).clamp = p.clamp := rfl
@[simp] theorem Part.modBranch_meter (p : Part) (b : Branch) (g : BranchEntry → BranchEntry) : (p.modBranch b g).meter = p.meter := rfl
@[simp] theorem Part.modBranch_budget (p : Part) (b : Branch) (g : BranchEntry → BranchEntry) : (p.modBranch b g).budget = p.budget := rfl
@[simp] theorem Part.modBranch_session (p : Part) (b : Branch) (g : BranchEntry → BranchEntry) : (p.modBranch b g).session = p.session := rfl
@[simp] theorem Part.modBranch_heat (p : Part) (b : Branch) (g : BranchEntry → BranchEntry) : (p.modBranch b g).heat = p.heat := rfl
@[simp] theorem Part.modBranch_monitor (p : Part) (b : Branch) (g : BranchEntry → BranchEntry) : (p.modBranch b g).monitor = p.monitor := rfl
@[simp] theorem Part.modBranch_locator (p : Part) (b : Branch) (g : BranchEntry → BranchEntry) : (p.modBranch b g).locator = p.locator := rfl
@[simp] theorem Part.modBranch_store (p : Part) (b : Branch) (g : BranchEntry → BranchEntry) : (p.modBranch b g).store = p.store := rfl
@[simp] theorem Part.modBranch_mgmt (p : Part) (b : Branch) (g : BranchEntry → BranchEntry) : (p.modBranch b g).mgmt = p.mgmt := rfl

/-! ### modBranches -/

@[simp] theorem Part.modBranches_drive (p : Part) (g : BranchEntry → BranchEntry) :
    (p.modBranches g).drive = { p.drive with branches := p.drive.branches.map g } := rfl
@[simp] theorem Part.modBranches_now (p : Part) (g : BranchEntry → BranchEntry) : (p.modBranches g).now = p.now := rfl
@[simp] theorem Part.modBranches_chain (p : Part) (g : BranchEntry → BranchEntry) : (p.modBranches g).chain = p.chain := rfl
@[simp] theorem Part.modBranches_nodes (p : Part) (g : BranchEntry → BranchEntry) : (p.modBranches g).nodes = p.nodes := rfl
@[simp] theorem Part.modBranches_clamp (p : Part) (g : BranchEntry → BranchEntry) : (p.modBranches g).clamp = p.clamp := rfl
@[simp] theorem Part.modBranches_meter (p : Part) (g : BranchEntry → BranchEntry) : (p.modBranches g).meter = p.meter := rfl
@[simp] theorem Part.modBranches_budget (p : Part) (g : BranchEntry → BranchEntry) : (p.modBranches g).budget = p.budget := rfl
@[simp] theorem Part.modBranches_session (p : Part) (g : BranchEntry → BranchEntry) : (p.modBranches g).session = p.session := rfl
@[simp] theorem Part.modBranches_heat (p : Part) (g : BranchEntry → BranchEntry) : (p.modBranches g).heat = p.heat := rfl
@[simp] theorem Part.modBranches_monitor (p : Part) (g : BranchEntry → BranchEntry) : (p.modBranches g).monitor = p.monitor := rfl
@[simp] theorem Part.modBranches_locator (p : Part) (g : BranchEntry → BranchEntry) : (p.modBranches g).locator = p.locator := rfl
@[simp] theorem Part.modBranches_store (p : Part) (g : BranchEntry → BranchEntry) : (p.modBranches g).store = p.store := rfl
@[simp] theorem Part.modBranches_mgmt (p : Part) (g : BranchEntry → BranchEntry) : (p.modBranches g).mgmt = p.mgmt := rfl

/-! ### modZone -/

@[simp] theorem Part.modZone_heat (p : Part) (z : Zone) (g : ZoneContext → ZoneContext) :
    (p.modZone z g).heat = { p.heat with zones := p.heat.zones.set z (g (p.heat.zones.get z)) } := rfl
@[simp] theorem Part.modZone_now (p : Part) (z : Zone) (g : ZoneContext → ZoneContext) : (p.modZone z g).now = p.now := rfl
@[simp] theorem Part.modZone_chain (p : Part) (z : Zone) (g : ZoneContext → ZoneContext) : (p.modZone z g).chain = p.chain := rfl
@[simp] theorem Part.modZone_nodes (p : Part) (z : Zone) (g : ZoneContext → ZoneContext) : (p.modZone z g).nodes = p.nodes := rfl
@[simp] theorem Part.modZone_clamp (p : Part) (z : Zone) (g : ZoneContext → ZoneContext) : (p.modZone z g).clamp = p.clamp := rfl
@[simp] theorem Part.modZone_drive (p : Part) (z : Zone) (g : ZoneContext → ZoneContext) : (p.modZone z g).drive = p.drive := rfl
@[simp] theorem Part.modZone_meter (p : Part) (z : Zone) (g : ZoneContext → ZoneContext) : (p.modZone z g).meter = p.meter := rfl
@[simp] theorem Part.modZone_budget (p : Part) (z : Zone) (g : ZoneContext → ZoneContext) : (p.modZone z g).budget = p.budget := rfl
@[simp] theorem Part.modZone_session (p : Part) (z : Zone) (g : ZoneContext → ZoneContext) : (p.modZone z g).session = p.session := rfl
@[simp] theorem Part.modZone_monitor (p : Part) (z : Zone) (g : ZoneContext → ZoneContext) : (p.modZone z g).monitor = p.monitor := rfl
@[simp] theorem Part.modZone_locator (p : Part) (z : Zone) (g : ZoneContext → ZoneContext) : (p.modZone z g).locator = p.locator := rfl
@[simp] theorem Part.modZone_store (p : Part) (z : Zone) (g : ZoneContext → ZoneContext) : (p.modZone z g).store = p.store := rfl
@[simp] theorem Part.modZone_mgmt (p : Part) (z : Zone) (g : ZoneContext → ZoneContext) : (p.modZone z g).mgmt = p.mgmt := rfl

/-! ### modZones -/

@[simp] theorem Part.modZones_heat (p : Part) (g : ZoneContext → ZoneContext) :
    (p.modZones g).heat = { p.heat with zones := p.heat.zones.map g } := rfl
@[simp] theorem Part.modZones_now (p : Part) (g : ZoneContext → ZoneContext) : (p.modZones g).now = p.now := rfl
@[simp] theorem Part.modZones_chain (p : Part) (g : ZoneContext → ZoneContext) : (p.modZones g).chain = p.chain := rfl
@[simp] theorem Part.modZones_nodes (p : Part) (g : ZoneContext → ZoneContext) : (p.modZones g).nodes = p.nodes := rfl
@[simp] theorem Part.modZones_clamp (p : Part) (g : ZoneContext → ZoneContext) : (p.modZones g).clamp = p.clamp := rfl
@[simp] theorem Part.modZones_drive (p : Part) (g : ZoneContext → ZoneContext) : (p.modZones g).drive = p.drive := rfl
@[simp] theorem Part.modZones_meter (p : Part) (g : ZoneContext → ZoneContext) : (p.modZones g).meter = p.meter := rfl
@[simp] theorem Part.modZones_budget (p : Part) (g : ZoneContext → ZoneContext) : (p.modZones g).budget = p.budget := rfl
@[simp] theorem Part.modZones_session (p : Part) (g : ZoneContext → ZoneContext) : (p.modZones g).session = p.session := rfl
@[simp] theorem Part.modZones_monitor (p : Part) (g : ZoneContext → ZoneContext) : (p.modZones g).monitor = p.monitor := rfl
@[simp] theorem Part.modZones_locator (p : Part) (g : ZoneContext → ZoneContext) : (p.modZones g).locator = p.locator := rfl
@[simp] theorem Part.modZones_store (p : Part) (g : ZoneContext → ZoneContext) : (p.modZones g).store = p.store := rfl
@[simp] theorem Part.modZones_mgmt (p : Part) (g : ZoneContext → ZoneContext) : (p.modZones g).mgmt = p.mgmt := rfl

/-! ### modEntry -/

@[simp] theorem Part.modEntry_nodes (p : Part) (r : Role) (g : EntryRuntime → EntryRuntime) :
    (p.modEntry r g).nodes = { p.nodes with runtime := p.nodes.runtime.set r (g (p.nodes.runtime.get r)) } := rfl
@[simp] theorem Part.modEntry_now (p : Part) (r : Role) (g : EntryRuntime → EntryRuntime) : (p.modEntry r g).now = p.now := rfl
@[simp] theorem Part.modEntry_chain (p : Part) (r : Role) (g : EntryRuntime → EntryRuntime) : (p.modEntry r g).chain = p.chain := rfl
@[simp] theorem Part.modEntry_clamp (p : Part) (r : Role) (g : EntryRuntime → EntryRuntime) : (p.modEntry r g).clamp = p.clamp := rfl
@[simp] theorem Part.modEntry_drive (p : Part) (r : Role) (g : EntryRuntime → EntryRuntime) : (p.modEntry r g).drive = p.drive := rfl
@[simp] theorem Part.modEntry_meter (p : Part) (r : Role) (g : EntryRuntime → EntryRuntime) : (p.modEntry r g).meter = p.meter := rfl
@[simp] theorem Part.modEntry_budget (p : Part) (r : Role) (g : EntryRuntime → EntryRuntime) : (p.modEntry r g).budget = p.budget := rfl
@[simp] theorem Part.modEntry_session (p : Part) (r : Role) (g : EntryRuntime → EntryRuntime) : (p.modEntry r g).session = p.session := rfl
@[simp] theorem Part.modEntry_heat (p : Part) (r : Role) (g : EntryRuntime → EntryRuntime) : (p.modEntry r g).heat = p.heat := rfl
@[simp] theorem Part.modEntry_monitor (p : Part) (r : Role) (g : EntryRuntime → EntryRuntime) : (p.modEntry r g).monitor = p.monitor := rfl
@[simp] theorem Part.modEntry_locator (p : Part) (r : Role) (g : EntryRuntime → EntryRuntime) : (p.modEntry r g).locator = p.locator := rfl
@[simp] theorem Part.modEntry_store (p : Part) (r : Role) (g : EntryRuntime → EntryRuntime) : (p.modEntry r g).store = p.store := rfl
@[simp] theorem Part.modEntry_mgmt (p : Part) (r : Role) (g : EntryRuntime → EntryRuntime) : (p.modEntry r g).mgmt = p.mgmt := rfl

end Sys2Proof.Machine
end

