-- ==== Sys2Proof/Laws/Kept.lean ====
section
/-! SUPPORT. What the blocks' operations keep. `outer` gathers what no block's operation inside an event
changes: the time, the Chain Port, the Node Table, the Management Unit but for its notices, and three
conditions (the energy counters balance, the notices fit, each drive waits once). `steady` adds what the end of
an event keeps. Each operation has one lemma per projection, so that a composition of operations is closed by
the simplifier. -/

namespace Sys2Proof.Machine

/-- The Management Unit but for what a notice changes. -/
def Management.core (m : Management) : Management := { m with notices := [], raised := 0#16, noticeLost := false }

/-- What every operation of a block keeps. -/
structure Outer where
  now : Nat
  chain : ChainPort
  nodes : NodeTable
  core : Management
  balanced : Prop
  noticesFit : Prop
  singleDrives : Prop

/-- What every operation of a block keeps, read from the part. -/
def Part.outer (p : Part) : Outer :=
  ⟨p.now, p.chain, p.nodes, p.mgmt.core, p.meter.balanced, p.noticesFit, singleDrives p.drive.queue⟩

/-- What the end of an event keeps. -/
structure Steady where
  outer : Outer
  limitTable : Option (Loaded LimitTable)
  budgetTable : Option (Loaded BudgetTable)
  heatTable : Option (Loaded HeatTable)
  insulationTable : Option (Loaded InsulationTable)
  tariff : Option (Loaded TariffTable)
  clock : Option Clock
  clockPhase : Nat
  band : ActiveBand
  manual : Option ManualSource
  departures : List Departure
  tripLatch : Bool
  faults : List FaultEntry
  areaSize : Nat
  borrow : Bool
  window : List Nat

/-- What the end of an event keeps, read from the part. -/
def Part.steady (p : Part) : Steady :=
  ⟨p.outer, p.session.table, p.budget.table, p.heat.table, p.monitor.table, p.meter.tariff, p.meter.clock,
    p.meter.clockPhase, p.meter.band, p.heat.manual, p.heat.departures, p.monitor.tripLatch, p.locator.faults,
    p.store.areaSize, p.store.borrow, p.budget.window⟩

theorem Part.outer_of_steady {p q : Part} (h : q.steady = p.steady) : q.outer = p.outer :=
  congrArg Steady.outer h

@[simp] theorem Part.outer_ite {c : Prop} [Decidable c] (p q : Part) :
    (if c then p else q).outer = if c then p.outer else q.outer := apply_ite ..

@[simp] theorem Part.steady_ite {c : Prop} [Decidable c] (p q : Part) :
    (if c then p else q).steady = if c then p.steady else q.steady := apply_ite ..

/-! ## Updates of one block -/

@[simp] theorem Part.modClamp_outer (p : Part) (g : OrderClamp → OrderClamp) : (p.modClamp g).outer = p.outer := rfl
@[simp] theorem Part.modBudget_outer (p : Part) (g : Budget → Budget) : (p.modBudget g).outer = p.outer := rfl
@[simp] theorem Part.modSession_outer (p : Part) (g : Session → Session) : (p.modSession g).outer = p.outer := rfl
@[simp] theorem Part.modHeat_outer (p : Part) (g : Heating → Heating) : (p.modHeat g).outer = p.outer := rfl
@[simp] theorem Part.modMonitor_outer (p : Part) (g : Monitor → Monitor) : (p.modMonitor g).outer = p.outer := rfl
@[simp] theorem Part.modLocator_outer (p : Part) (g : Locator → Locator) : (p.modLocator g).outer = p.outer := rfl
@[simp] theorem Part.modStore_outer (p : Part) (g : RecordStore → RecordStore) : (p.modStore g).outer = p.outer := rfl
@[simp] theorem Part.modBranch_outer (p : Part) (b : Branch) (g : BranchEntry → BranchEntry) :
    (p.modBranch b g).outer = p.outer := rfl
@[simp] theorem Part.modBranches_outer (p : Part) (g : BranchEntry → BranchEntry) :
    (p.modBranches g).outer = p.outer := rfl
@[simp] theorem Part.modZone_outer (p : Part) (z : Zone) (g : ZoneContext → ZoneContext) :
    (p.modZone z g).outer = p.outer := rfl
@[simp] theorem Part.modZones_outer (p : Part) (g : ZoneContext → ZoneContext) : (p.modZones g).outer = p.outer := rfl

@[simp] theorem Part.modDrive_outer (p : Part) (g : DriveUnit → DriveUnit) (h : (g p.drive).queue = p.drive.queue) :
    (p.modDrive g).outer = p.outer := by
  simp only [Part.outer, Part.modDrive_drive, h]; rfl

/-- An update of the Metering Unit keeps the four part-wide counters. -/
abbrev Metering.asEven (m n : Metering) : Prop :=
  n.billed = m.billed ∧ n.unbilled = m.unbilled ∧ n.rejected = m.rejected ∧ n.inletSeen = m.inletSeen

@[simp] theorem Part.modMeter_outer (p : Part) (g : Metering → Metering) (h : p.meter.asEven (g p.meter)) :
    (p.modMeter g).outer = p.outer := by
  have e : (g p.meter).balanced = p.meter.balanced := by simp only [Metering.balanced, h]
  simp only [Part.outer, Part.modMeter_meter, e]; rfl

@[simp] theorem Part.modClamp_steady (p : Part) (g : OrderClamp → OrderClamp) : (p.modClamp g).steady = p.steady := rfl
@[simp] theorem Part.modBranch_steady (p : Part) (b : Branch) (g : BranchEntry → BranchEntry) :
    (p.modBranch b g).steady = p.steady := rfl
@[simp] theorem Part.modBranches_steady (p : Part) (g : BranchEntry → BranchEntry) :
    (p.modBranches g).steady = p.steady := rfl
@[simp] theorem Part.modZone_steady (p : Part) (z : Zone) (g : ZoneContext → ZoneContext) :
    (p.modZone z g).steady = p.steady := rfl
@[simp] theorem Part.modZones_steady (p : Part) (g : ZoneContext → ZoneContext) :
    (p.modZones g).steady = p.steady := rfl

@[simp] theorem Part.modDrive_steady (p : Part) (g : DriveUnit → DriveUnit) (h : (g p.drive).queue = p.drive.queue) :
    (p.modDrive g).steady = p.steady := by
  simp only [Part.steady, Part.modDrive_outer p g h]; rfl

@[simp] theorem Part.modSession_steady (p : Part) (g : Session → Session) (h : (g p.session).table = p.session.table) :
    (p.modSession g).steady = p.steady := by
  simp only [Part.steady, Part.modSession_session, h]; rfl

@[simp] theorem Part.modBudget_steady (p : Part) (g : Budget → Budget)
    (h : (g p.budget).table = p.budget.table ∧ (g p.budget).window = p.budget.window) :
    (p.modBudget g).steady = p.steady := by
  simp only [Part.steady, Part.modBudget_budget, h]; rfl

@[simp] theorem Part.modHeat_steady (p : Part) (g : Heating → Heating)
    (h : (g p.heat).table = p.heat.table ∧ (g p.heat).manual = p.heat.manual
      ∧ (g p.heat).departures = p.heat.departures) :
    (p.modHeat g).steady = p.steady := by
  simp only [Part.steady, Part.modHeat_heat, h]; rfl

@[simp] theorem Part.modMonitor_steady (p : Part) (g : Monitor → Monitor)
    (h : (g p.monitor).table = p.monitor.table ∧ (g p.monitor).tripLatch = p.monitor.tripLatch) :
    (p.modMonitor g).steady = p.steady := by
  simp only [Part.steady, Part.modMonitor_monitor, h]; rfl

@[simp] theorem Part.modLocator_steady (p : Part) (g : Locator → Locator) (h : (g p.locator).faults = p.locator.faults) :
    (p.modLocator g).steady = p.steady := by
  simp only [Part.steady, Part.modLocator_locator, h]; rfl

@[simp] theorem Part.modStore_steady (p : Part) (g : RecordStore → RecordStore)
    (h : (g p.store).areaSize = p.store.areaSize ∧ (g p.store).borrow = p.store.borrow) :
    (p.modStore g).steady = p.steady := by
  simp only [Part.steady, Part.modStore_store, h]; rfl

/-- What an update of the Metering Unit keeps for it to be steady. -/
abbrev Metering.same (m n : Metering) : Prop :=
  m.asEven n ∧ n.tariff = m.tariff ∧ n.clock = m.clock ∧ n.clockPhase = m.clockPhase ∧ n.band = m.band

@[simp] theorem Part.modMeter_steady (p : Part) (g : Metering → Metering) (h : p.meter.same (g p.meter)) :
    (p.modMeter g).steady = p.steady := by
  obtain ⟨h1, h2, h3, h4, h5⟩ := h
  simp only [Part.steady, Part.modMeter_outer p g h1, Part.modMeter_meter, h2, h3, h4, h5]; rfl

/-! ## The shared operations (R180, R24) -/

theorem Part.raise_core (p : Part) (b : NoticeBody) : (p.raise b).mgmt.core = p.mgmt.core := by
  simp only [Part.raise, Part.modMgmt_mgmt]
  split
  · rfl
  · split <;> rfl

theorem Part.raise_notices (p : Part) (b : NoticeBody) :
    (p.raise b).mgmt.notices = p.mgmt.notices
      ∨ (p.mgmt.notices.length < p.noticeCapacity
        ∧ (p.raise b).mgmt.notices = p.mgmt.notices ++ [⟨p.noticeDestination, p.meter.clock, b⟩]) := by
  simp only [Part.raise, Part.modMgmt_mgmt]
  split
  · exact .inl rfl
  · split
    · next h => exact .inr ⟨h, rfl⟩
    · exact .inl rfl

theorem noticesFit_raise (p : Part) (b : NoticeBody) : (p.raise b).noticesFit = p.noticesFit := by
  have size : (p.raise b).mgmt.core.noticeSize / 32 = p.mgmt.core.noticeSize / 32 := by rw [p.raise_core b]
  change (p.raise b).noticeCapacity = p.noticeCapacity at size
  unfold Part.noticesFit
  rw [size]
  rcases p.raise_notices b with h | ⟨room, h⟩
  · rw [h]
  · rw [h, List.length_append]
    exact propext ⟨fun _ => Nat.le_of_lt room, fun _ => room⟩

@[simp] theorem Part.raise_outer (p : Part) (b : NoticeBody) : (p.raise b).outer = p.outer := by
  simp only [Part.outer, p.raise_core b, noticesFit_raise]; rfl

@[simp] theorem Part.raise_steady (p : Part) (b : NoticeBody) : (p.raise b).steady = p.steady := by
  simp only [Part.steady, Part.raise_outer]; rfl

@[simp] theorem Part.queueDrive_outer (p : Part) (d : Drive) : (p.queueDrive d).outer = p.outer := by
  unfold Part.queueDrive
  split
  · simp only [Part.outer, Part.modDrive_drive, propext (singleDrives_coalesce p.drive.queue d)]; rfl
  · rfl

@[simp] theorem Part.queueDrive_steady (p : Part) (d : Drive) : (p.queueDrive d).steady = p.steady := by
  have h := p.queueDrive_outer d
  simp only [Part.steady, h]
  unfold Part.queueDrive
  split <;> rfl

end Sys2Proof.Machine
end

