-- ==== Sys2Proof/Laws/KeptHeat.lean ====
section
/-! SUPPORT. What the operations of the Record Store, the Drive Unit and the Heating Controller keep. -/

set_option linter.unusedSimpArgs false

namespace Sys2Proof.Machine

@[simp] theorem Part.modRecord_outer (p : Part) (g : Record → Record) : (p.modRecord g).outer = p.outer := by
  unfold Part.modRecord
  (try dsimp only); (repeat' split) <;> (try dsimp only) <;> (repeat' split) <;> simp [Metering.same, Metering.asEven]

@[simp] theorem Part.modRecord_steady (p : Part) (g : Record → Record) : (p.modRecord g).steady = p.steady := by
  unfold Part.modRecord
  (try dsimp only); (repeat' split) <;> (try dsimp only) <;> (repeat' split) <;> simp [Metering.same, Metering.asEven]

@[simp] theorem Part.flagRecord_outer (p : Part) (g : RecordFlags → RecordFlags) : (p.flagRecord g).outer = p.outer := by
  unfold Part.flagRecord
  (try dsimp only); (repeat' split) <;> (try dsimp only) <;> (repeat' split) <;> simp [Metering.same, Metering.asEven]

@[simp] theorem Part.flagRecord_steady (p : Part) (g : RecordFlags → RecordFlags) : (p.flagRecord g).steady = p.steady := by
  unfold Part.flagRecord
  (try dsimp only); (repeat' split) <;> (try dsimp only) <;> (repeat' split) <;> simp [Metering.same, Metering.asEven]

@[simp] theorem Part.formBoundary_outer (p : Part) : (p.formBoundary).outer = p.outer := by
  unfold Part.formBoundary
  (try dsimp only); (repeat' split) <;> (try dsimp only) <;> (repeat' split) <;> simp [Metering.same, Metering.asEven]

@[simp] theorem Part.formBoundary_steady (p : Part) : (p.formBoundary).steady = p.steady := by
  unfold Part.formBoundary
  (try dsimp only); (repeat' split) <;> (try dsimp only) <;> (repeat' split) <;> simp [Metering.same, Metering.asEven]

@[simp] theorem Part.storeLowCheck_outer (p : Part) (n : Nat) : (p.storeLowCheck n).outer = p.outer := by
  unfold Part.storeLowCheck
  (try dsimp only); (repeat' split) <;> (try dsimp only) <;> (repeat' split) <;> simp [Metering.same, Metering.asEven]

@[simp] theorem Part.storeLowCheck_steady (p : Part) (n : Nat) : (p.storeLowCheck n).steady = p.steady := by
  unfold Part.storeLowCheck
  (try dsimp only); (repeat' split) <;> (try dsimp only) <;> (repeat' split) <;> simp [Metering.same, Metering.asEven]

@[simp] theorem Part.openRecord_outer (p : Part) (a : Nat) (t : Tags) (k : Kind) (c : Bool) (n : Nat) : (p.openRecord a t k c n).outer = p.outer := by
  unfold Part.openRecord
  (try dsimp only); (repeat' split) <;> (try dsimp only) <;> (repeat' split) <;> simp [Metering.same, Metering.asEven]

@[simp] theorem Part.openRecord_steady (p : Part) (a : Nat) (t : Tags) (k : Kind) (c : Bool) (n : Nat) : (p.openRecord a t k c n).steady = p.steady := by
  unfold Part.openRecord
  (try dsimp only); (repeat' split) <;> (try dsimp only) <;> (repeat' split) <;> simp [Metering.same, Metering.asEven]

@[simp] theorem Part.closeRecord_outer (p : Part) : (p.closeRecord).outer = p.outer := by
  unfold Part.closeRecord
  (try dsimp only); (repeat' split) <;> (try dsimp only) <;> (repeat' split) <;> simp [Metering.same, Metering.asEven]

@[simp] theorem Part.closeRecord_steady (p : Part) : (p.closeRecord).steady = p.steady := by
  unfold Part.closeRecord
  (try dsimp only); (repeat' split) <;> (try dsimp only) <;> (repeat' split) <;> simp [Metering.same, Metering.asEven]

@[simp] theorem Part.setPartClaims_outer (p : Part) (b : Bool) : (p.setPartClaims b).outer = p.outer := by
  unfold Part.setPartClaims
  (try dsimp only); (repeat' split) <;> (try dsimp only) <;> (repeat' split) <;> simp [Metering.same, Metering.asEven]

@[simp] theorem Part.setPartClaims_steady (p : Part) (b : Bool) : (p.setPartClaims b).steady = p.steady := by
  unfold Part.setPartClaims
  (try dsimp only); (repeat' split) <;> (try dsimp only) <;> (repeat' split) <;> simp [Metering.same, Metering.asEven]

@[simp] theorem Part.claimInlet_outer (p : Part) (k : ChargeKind) : (p.claimInlet k).outer = p.outer := by
  unfold Part.claimInlet
  (try dsimp only); (repeat' split) <;> (try dsimp only) <;> (repeat' split) <;> simp [Metering.same, Metering.asEven]

@[simp] theorem Part.claimInlet_steady (p : Part) (k : ChargeKind) : (p.claimInlet k).steady = p.steady := by
  unfold Part.claimInlet
  (try dsimp only); (repeat' split) <;> (try dsimp only) <;> (repeat' split) <;> simp [Metering.same, Metering.asEven]

@[simp] theorem Part.releaseInlet_outer (p : Part) : (p.releaseInlet).outer = p.outer := by
  unfold Part.releaseInlet
  (try dsimp only); (repeat' split) <;> (try dsimp only) <;> (repeat' split) <;> simp [Metering.same, Metering.asEven]

@[simp] theorem Part.releaseInlet_steady (p : Part) : (p.releaseInlet).steady = p.steady := by
  unfold Part.releaseInlet
  (try dsimp only); (repeat' split) <;> (try dsimp only) <;> (repeat' split) <;> simp [Metering.same, Metering.asEven]

@[simp] theorem Part.decideBranches_outer (p : Part) : (p.decideBranches).outer = p.outer := by
  unfold Part.decideBranches
  (try dsimp only); (repeat' split) <;> (try dsimp only) <;> (repeat' split) <;> simp [Metering.same, Metering.asEven]

@[simp] theorem Part.decideBranches_steady (p : Part) : (p.decideBranches).steady = p.steady := by
  unfold Part.decideBranches
  (try dsimp only); (repeat' split) <;> (try dsimp only) <;> (repeat' split) <;> simp [Metering.same, Metering.asEven]

@[simp] theorem Part.enterWaiting_outer (p : Part) (z : Zone) : (p.enterWaiting z).outer = p.outer := by
  unfold Part.enterWaiting
  (try dsimp only); (repeat' split) <;> (try dsimp only) <;> (repeat' split) <;> simp [Metering.same, Metering.asEven]

@[simp] theorem Part.enterWaiting_steady (p : Part) (z : Zone) : (p.enterWaiting z).steady = p.steady := by
  unfold Part.enterWaiting
  (try dsimp only); (repeat' split) <;> (try dsimp only) <;> (repeat' split) <;> simp [Metering.same, Metering.asEven]

@[simp] theorem Part.leaveWaiting_outer (p : Part) (z : Zone) : (p.leaveWaiting z).outer = p.outer := by
  unfold Part.leaveWaiting
  (try dsimp only); (repeat' split) <;> (try dsimp only) <;> (repeat' split) <;> simp [Metering.same, Metering.asEven]

@[simp] theorem Part.leaveWaiting_steady (p : Part) (z : Zone) : (p.leaveWaiting z).steady = p.steady := by
  unfold Part.leaveWaiting
  (try dsimp only); (repeat' split) <;> (try dsimp only) <;> (repeat' split) <;> simp [Metering.same, Metering.asEven]

@[simp] theorem Part.setDemand_outer (p : Part) (z : Zone) (b : Bool) : (p.setDemand z b).outer = p.outer := by
  unfold Part.setDemand
  (try dsimp only); (repeat' split) <;> (try dsimp only) <;> (repeat' split) <;> simp [Metering.same, Metering.asEven]

@[simp] theorem Part.setDemand_steady (p : Part) (z : Zone) (b : Bool) : (p.setDemand z b).steady = p.steady := by
  unfold Part.setDemand
  (try dsimp only); (repeat' split) <;> (try dsimp only) <;> (repeat' split) <;> simp [Metering.same, Metering.asEven]

@[simp] theorem Part.evalDemand_outer (p : Part) : (p.evalDemand).outer = p.outer := by
  unfold Part.evalDemand
  (try dsimp only); (repeat' split) <;> (try dsimp only) <;> (repeat' split) <;> simp [Metering.same, Metering.asEven]

@[simp] theorem Part.evalDemand_steady (p : Part) : (p.evalDemand).steady = p.steady := by
  unfold Part.evalDemand
  (try dsimp only); (repeat' split) <;> (try dsimp only) <;> (repeat' split) <;> simp [Metering.same, Metering.asEven]

@[simp] theorem Part.demandDue_outer (p : Part) : (p.demandDue).outer = p.outer := by
  unfold Part.demandDue
  (try dsimp only); (repeat' split) <;> (try dsimp only) <;> (repeat' split) <;> simp [Metering.same, Metering.asEven]

@[simp] theorem Part.demandDue_steady (p : Part) : (p.demandDue).steady = p.steady := by
  unfold Part.demandDue
  (try dsimp only); (repeat' split) <;> (try dsimp only) <;> (repeat' split) <;> simp [Metering.same, Metering.asEven]

@[simp] theorem Part.queueHeatSet_outer (p : Part) : (p.queueHeatSet).outer = p.outer := by
  unfold Part.queueHeatSet
  (try dsimp only); (repeat' split) <;> (try dsimp only) <;> (repeat' split) <;> simp [Metering.same, Metering.asEven]

@[simp] theorem Part.queueHeatSet_steady (p : Part) : (p.queueHeatSet).steady = p.steady := by
  unfold Part.queueHeatSet
  (try dsimp only); (repeat' split) <;> (try dsimp only) <;> (repeat' split) <;> simp [Metering.same, Metering.asEven]

@[simp] theorem Part.startBurst_outer (p : Part) (t : HeatTable) (z : Zone) : (p.startBurst t z).outer = p.outer := by
  unfold Part.startBurst
  (try dsimp only); (repeat' split) <;> (try dsimp only) <;> (repeat' split) <;> simp [Metering.same, Metering.asEven]

@[simp] theorem Part.startBurst_steady (p : Part) (t : HeatTable) (z : Zone) : (p.startBurst t z).steady = p.steady := by
  unfold Part.startBurst
  (try dsimp only); (repeat' split) <;> (try dsimp only) <;> (repeat' split) <;> simp [Metering.same, Metering.asEven]

@[simp] theorem Part.endBurst_outer (p : Part) (e : Ending) (z : Zone) : (p.endBurst e z).outer = p.outer := by
  unfold Part.endBurst
  (try dsimp only); (repeat' split) <;> (try dsimp only) <;> (repeat' split) <;> simp [Metering.same, Metering.asEven]

@[simp] theorem Part.endBurst_steady (p : Part) (e : Ending) (z : Zone) : (p.endBurst e z).steady = p.steady := by
  unfold Part.endBurst
  (try dsimp only); (repeat' split) <;> (try dsimp only) <;> (repeat' split) <;> simp [Metering.same, Metering.asEven]

@[simp] theorem Part.enterFrom_outer (t : HeatTable) (zs : List Zone) (p : Part) :
    (Part.enterFrom t zs p).outer = p.outer := by
  induction zs generalizing p with
  | nil => rfl
  | cons z zs ih => unfold Part.enterFrom; split <;> simp [ih]

@[simp] theorem Part.endBurstsOf_outer (e : Ending) (zs : List Zone) (p : Part) :
    (Part.endBurstsOf e zs p).outer = p.outer := by
  induction zs generalizing p with
  | nil => rfl
  | cons z zs ih => simp [Part.endBurstsOf, ih]

@[simp] theorem Part.enterFrom_steady (t : HeatTable) (zs : List Zone) (p : Part) :
    (Part.enterFrom t zs p).steady = p.steady := by
  induction zs generalizing p with
  | nil => rfl
  | cons z zs ih => unfold Part.enterFrom; split <;> simp [ih]

@[simp] theorem Part.endBurstsOf_steady (e : Ending) (zs : List Zone) (p : Part) :
    (Part.endBurstsOf e zs p).steady = p.steady := by
  induction zs generalizing p with
  | nil => rfl
  | cons z zs ih => simp [Part.endBurstsOf, ih]

@[simp] theorem Part.enterBursts_outer (p : Part) : (p.enterBursts).outer = p.outer := by
  unfold Part.enterBursts
  (try dsimp only); (repeat' split) <;> (try dsimp only) <;> (repeat' split) <;> simp [Metering.same, Metering.asEven]

@[simp] theorem Part.enterBursts_steady (p : Part) : (p.enterBursts).steady = p.steady := by
  unfold Part.enterBursts
  (try dsimp only); (repeat' split) <;> (try dsimp only) <;> (repeat' split) <;> simp [Metering.same, Metering.asEven]

@[simp] theorem Part.endBursts_outer (p : Part) (e : Ending) : (p.endBursts e).outer = p.outer := by
  unfold Part.endBursts
  (try dsimp only); (repeat' split) <;> (try dsimp only) <;> (repeat' split) <;> simp [Metering.same, Metering.asEven]

@[simp] theorem Part.endBursts_steady (p : Part) (e : Ending) : (p.endBursts e).steady = p.steady := by
  unfold Part.endBursts
  (try dsimp only); (repeat' split) <;> (try dsimp only) <;> (repeat' split) <;> simp [Metering.same, Metering.asEven]

@[simp] theorem Part.clearDemand_outer (p : Part) : (p.clearDemand).outer = p.outer := by
  unfold Part.clearDemand
  (try dsimp only); (repeat' split) <;> (try dsimp only) <;> (repeat' split) <;> simp [Metering.same, Metering.asEven]

@[simp] theorem Part.clearDemand_steady (p : Part) : (p.clearDemand).steady = p.steady := by
  unfold Part.clearDemand
  (try dsimp only); (repeat' split) <;> (try dsimp only) <;> (repeat' split) <;> simp [Metering.same, Metering.asEven]

@[simp] theorem Part.extendBurst_outer (p : Part) (t : HeatTable) (z : Zone) : (p.extendBurst t z).outer = p.outer := by
  unfold Part.extendBurst
  (try dsimp only); (repeat' split) <;> (try dsimp only) <;> (repeat' split) <;> simp [Metering.same, Metering.asEven]

@[simp] theorem Part.extendBurst_steady (p : Part) (t : HeatTable) (z : Zone) : (p.extendBurst t z).steady = p.steady := by
  unfold Part.extendBurst
  (try dsimp only); (repeat' split) <;> (try dsimp only) <;> (repeat' split) <;> simp [Metering.same, Metering.asEven]

@[simp] theorem Part.quarantineZone_outer (p : Part) (z : Zone) : (p.quarantineZone z).outer = p.outer := by
  unfold Part.quarantineZone
  (try dsimp only); (repeat' split) <;> (try dsimp only) <;> (repeat' split) <;> simp [Metering.same, Metering.asEven]

@[simp] theorem Part.quarantineZone_steady (p : Part) (z : Zone) : (p.quarantineZone z).steady = p.steady := by
  unfold Part.quarantineZone
  (try dsimp only); (repeat' split) <;> (try dsimp only) <;> (repeat' split) <;> simp [Metering.same, Metering.asEven]

@[simp] theorem Part.restoreZone_outer (p : Part) (z : Zone) : (p.restoreZone z).outer = p.outer := by
  unfold Part.restoreZone
  (try dsimp only); (repeat' split) <;> (try dsimp only) <;> (repeat' split) <;> simp [Metering.same, Metering.asEven]

@[simp] theorem Part.restoreZone_steady (p : Part) (z : Zone) : (p.restoreZone z).steady = p.steady := by
  unfold Part.restoreZone
  (try dsimp only); (repeat' split) <;> (try dsimp only) <;> (repeat' split) <;> simp [Metering.same, Metering.asEven]

@[simp] theorem Part.takeHeatOn_outer (p : Part) (z : Zone) (b : Bool) : (p.takeHeatOn z b).outer = p.outer := by
  unfold Part.takeHeatOn
  (try dsimp only); (repeat' split) <;> (try dsimp only) <;> (repeat' split) <;> simp [Metering.same, Metering.asEven]

@[simp] theorem Part.takeHeatOn_steady (p : Part) (z : Zone) (b : Bool) : (p.takeHeatOn z b).steady = p.steady := by
  unfold Part.takeHeatOn
  (try dsimp only); (repeat' split) <;> (try dsimp only) <;> (repeat' split) <;> simp [Metering.same, Metering.asEven]

@[simp] theorem Part.takeHeatOns_outer (p : Part) (r : PerZone Bool) : (p.takeHeatOns r).outer = p.outer := by
  unfold Part.takeHeatOns
  (try dsimp only); (repeat' split) <;> (try dsimp only) <;> (repeat' split) <;> simp [Metering.same, Metering.asEven]

@[simp] theorem Part.takeHeatOns_steady (p : Part) (r : PerZone Bool) : (p.takeHeatOns r).steady = p.steady := by
  unfold Part.takeHeatOns
  (try dsimp only); (repeat' split) <;> (try dsimp only) <;> (repeat' split) <;> simp [Metering.same, Metering.asEven]

@[simp] theorem Part.failHeatChange_outer (p : Part) (z : Zone) : (p.failHeatChange z).outer = p.outer := by
  unfold Part.failHeatChange
  (try dsimp only); (repeat' split) <;> (try dsimp only) <;> (repeat' split) <;> simp [Metering.same, Metering.asEven]

@[simp] theorem Part.failHeatChange_steady (p : Part) (z : Zone) : (p.failHeatChange z).steady = p.steady := by
  unfold Part.failHeatChange
  (try dsimp only); (repeat' split) <;> (try dsimp only) <;> (repeat' split) <;> simp [Metering.same, Metering.asEven]

@[simp] theorem Part.chargeManual_outer (p : Part) (n : Nat) : (p.chargeManual n).outer = p.outer := by
  unfold Part.chargeManual
  (try dsimp only); (repeat' split) <;> (try dsimp only) <;> (repeat' split) <;> simp [Metering.same, Metering.asEven]

@[simp] theorem Part.endManual_outer (p : Part) : (p.endManual).outer = p.outer := by
  unfold Part.endManual
  (try dsimp only); (repeat' split) <;> (try dsimp only) <;> (repeat' split) <;> simp [Metering.same, Metering.asEven]

@[simp] theorem Part.evalWindows_outer (p : Part) : (p.evalWindows).outer = p.outer := by
  unfold Part.evalWindows
  (try dsimp only); (repeat' split) <;> (try dsimp only) <;> (repeat' split) <;> simp [Metering.same, Metering.asEven]

@[simp] theorem Part.raiseDeparture_outer (p : Part) (r : DepartureReason) (d : Departure) : (p.raiseDeparture r d).outer = p.outer := by
  unfold Part.raiseDeparture
  (try dsimp only); (repeat' split) <;> (try dsimp only) <;> (repeat' split) <;> simp [Metering.same, Metering.asEven]

@[simp] theorem Part.raiseDeparture_steady (p : Part) (r : DepartureReason) (d : Departure) : (p.raiseDeparture r d).steady = p.steady := by
  unfold Part.raiseDeparture
  (try dsimp only); (repeat' split) <;> (try dsimp only) <;> (repeat' split) <;> simp [Metering.same, Metering.asEven]

@[simp] theorem Part.raiseDepartures_outer (r : DepartureReason) (ds : List Departure) (p : Part) :
    (Part.raiseDepartures r ds p).outer = p.outer := by
  induction ds generalizing p with
  | nil => rfl
  | cons d ds ih => simp [Part.raiseDepartures, ih]

@[simp] theorem Part.raiseDepartures_steady (r : DepartureReason) (ds : List Departure) (p : Part) :
    (Part.raiseDepartures r ds p).steady = p.steady := by
  induction ds generalizing p with
  | nil => rfl
  | cons d ds ih => simp [Part.raiseDepartures, ih]

@[simp] theorem Part.countDownDepartures_outer (p : Part) : (p.countDownDepartures).outer = p.outer := by
  unfold Part.countDownDepartures
  (try dsimp only); (repeat' split) <;> (try dsimp only) <;> (repeat' split) <;> simp [Metering.same, Metering.asEven]

@[simp] theorem Part.moveDepartures_outer (p : Part) (a b : Clock) : (p.moveDepartures a b).outer = p.outer := by
  unfold Part.moveDepartures
  (try dsimp only); (repeat' split) <;> (try dsimp only) <;> (repeat' split) <;> simp [Metering.same, Metering.asEven]

end Sys2Proof.Machine
end

