-- ==== Sys2Proof/Laws/KeptSession.lean ====
section
/-! SUPPORT. What the operations of the Metering Unit and the Session Controller keep. -/

set_option linter.unusedSimpArgs false

namespace Sys2Proof.Machine

/-- R35: setting a base keeps everything but the bases. -/
theorem Metering.setBase_same (m : Metering) (r : Role) (b : Option EnergyBase) : m.same (m.setBase r b) := by
  cases r <;> simp [Metering.setBase, Metering.same, Metering.asEven]

@[simp] theorem Part.setBase_outer (p : Part) (r : Role) (b : Option EnergyBase) :
    (p.modMeter fun m => m.setBase r b).outer = p.outer := Part.modMeter_outer p _ (p.meter.setBase_same r b).1

@[simp] theorem Part.setBase_steady (p : Part) (r : Role) (b : Option EnergyBase) :
    (p.modMeter fun m => m.setBase r b).steady = p.steady := Part.modMeter_steady p _ (p.meter.setBase_same r b)

@[simp] theorem Part.moveBase_outer (p : Part) (e : NodeEntry) (r : Register32) (h : Byte) : (p.moveBase e r h).outer = p.outer := by
  unfold Part.moveBase
  (try dsimp only); (repeat' split) <;> (try dsimp only) <;> (repeat' split) <;> simp [Metering.same, Metering.asEven]

@[simp] theorem Part.moveBase_steady (p : Part) (e : NodeEntry) (r : Register32) (h : Byte) : (p.moveBase e r h).steady = p.steady := by
  unfold Part.moveBase
  (try dsimp only); (repeat' split) <;> (try dsimp only) <;> (repeat' split) <;> simp [Metering.same, Metering.asEven]

@[simp] theorem Part.lookUpBand_outer (p : Part) : (p.lookUpBand).outer = p.outer := by
  unfold Part.lookUpBand
  (try dsimp only); (repeat' split) <;> (try dsimp only) <;> (repeat' split) <;> simp [Metering.same, Metering.asEven]

@[simp] theorem Part.refreshBand_outer (p : Part) : (p.refreshBand).outer = p.outer := by
  unfold Part.refreshBand
  (try dsimp only); (repeat' split) <;> (try dsimp only) <;> (repeat' split) <;> simp [Metering.same, Metering.asEven]

/-- R44: adding one amount to INLET_SEEN and to one of its three parts keeps the sum. -/
theorem balanced_of_added {b u r i n : Energy} : (b + n + u + r = i + n) = (b + u + r = i) := by
  rw [show b + n + u + r = b + u + r + n by ac_rfl]
  exact propext ⟨fun h => BitVec.add_left_inj n |>.mp h, fun h => by rw [h]⟩

@[simp] theorem Part.attribute_outer (p : Part) (e : Nat) : (p.attribute e).outer = p.outer := by
  have h : (p.attribute e).meter.balanced = p.meter.balanced := by
    unfold Part.attribute
    simp only [Part.modMeter_meter, Part.modRecord, Part.modStore_meter, Metering.balanced, addCounter]
    split
    · exact balanced_of_added
    · show (p.meter.billed + (p.meter.unbilled + _) + p.meter.rejected = p.meter.inletSeen + _) = _
      rw [show p.meter.billed + (p.meter.unbilled + BitVec.ofNat 48 e)
        = p.meter.billed + BitVec.ofNat 48 e + p.meter.unbilled by ac_rfl]
      exact balanced_of_added
  simp only [Part.outer, h]; rfl

@[simp] theorem Part.rejectInlet_outer (p : Part) (e : Nat) : (p.rejectInlet e).outer = p.outer := by
  have h : (p.rejectInlet e).meter.balanced = p.meter.balanced := by
    show (p.meter.billed + p.meter.unbilled + (p.meter.rejected + BitVec.ofNat 48 e)
      = p.meter.inletSeen + BitVec.ofNat 48 e) = _
    rw [show p.meter.billed + p.meter.unbilled + (p.meter.rejected + BitVec.ofNat 48 e)
      = p.meter.billed + BitVec.ofNat 48 e + p.meter.unbilled + p.meter.rejected by ac_rfl]
    exact balanced_of_added
  simp only [Part.outer, h]; rfl

@[simp] theorem Session.closedContext_table (s : Session) : s.closedContext.table = s.table := by cases s; rfl
@[simp] theorem Session.terminated_table (s : Session) (c : Cause) : (s.terminated c).table = s.table := by cases s; rfl

@[simp] theorem Part.enterSession_outer (p : Part) (st : SessionState) : (p.enterSession st).outer = p.outer := by
  unfold Part.enterSession
  (try dsimp only); (repeat' split) <;> (try dsimp only) <;> (repeat' split) <;> simp [Metering.same, Metering.asEven]

@[simp] theorem Part.enterSession_steady (p : Part) (st : SessionState) : (p.enterSession st).steady = p.steady := by
  unfold Part.enterSession
  (try dsimp only); (repeat' split) <;> (try dsimp only) <;> (repeat' split) <;> simp [Metering.same, Metering.asEven]

@[simp] theorem Part.closeSession_outer (p : Part) : (p.closeSession).outer = p.outer := by
  unfold Part.closeSession
  (try dsimp only); (repeat' split) <;> (try dsimp only) <;> (repeat' split) <;> simp [Metering.same, Metering.asEven]

@[simp] theorem Part.closeSession_steady (p : Part) : (p.closeSession).steady = p.steady := by
  unfold Part.closeSession
  (try dsimp only); (repeat' split) <;> (try dsimp only) <;> (repeat' split) <;> simp [Metering.same, Metering.asEven]

@[simp] theorem Part.cutTail_outer (p : Part) : (p.cutTail).outer = p.outer := by
  unfold Part.cutTail
  (try dsimp only); (repeat' split) <;> (try dsimp only) <;> (repeat' split) <;> simp [Metering.same, Metering.asEven]

@[simp] theorem Part.cutTail_steady (p : Part) : (p.cutTail).steady = p.steady := by
  unfold Part.cutTail
  (try dsimp only); (repeat' split) <;> (try dsimp only) <;> (repeat' split) <;> simp [Metering.same, Metering.asEven]

@[simp] theorem Part.beginTail_outer (p : Part) : (p.beginTail).outer = p.outer := by
  unfold Part.beginTail
  (try dsimp only); (repeat' split) <;> (try dsimp only) <;> (repeat' split) <;> simp [Metering.same, Metering.asEven]

@[simp] theorem Part.beginTail_steady (p : Part) : (p.beginTail).steady = p.steady := by
  unfold Part.beginTail
  (try dsimp only); (repeat' split) <;> (try dsimp only) <;> (repeat' split) <;> simp [Metering.same, Metering.asEven]

@[simp] theorem Part.terminate_outer (p : Part) (c : Cause) : (p.terminate c).outer = p.outer := by
  unfold Part.terminate
  (try dsimp only); (repeat' split) <;> (try dsimp only) <;> (repeat' split) <;> simp [Metering.same, Metering.asEven]

@[simp] theorem Part.terminate_steady (p : Part) (c : Cause) : (p.terminate c).steady = p.steady := by
  unfold Part.terminate
  (try dsimp only); (repeat' split) <;> (try dsimp only) <;> (repeat' split) <;> simp [Metering.same, Metering.asEven]

/-! ## A session's end leaves the Branch Locator alone -/

@[simp] theorem Part.closeRecord_locator (p : Part) : p.closeRecord.locator = p.locator := by
  unfold Part.closeRecord
  split <;> rfl

@[simp] theorem Part.closeSession_locator (p : Part) : p.closeSession.locator = p.locator :=
  p.closeRecord_locator

@[simp] theorem Part.cutTail_locator (p : Part) : p.cutTail.locator = p.locator := by
  unfold Part.cutTail
  (repeat' split) <;> first | rfl | exact Part.closeSession_locator _

@[simp] theorem Part.beginTail_locator (p : Part) : p.beginTail.locator = p.locator := by
  unfold Part.beginTail
  (repeat' split) <;> first | rfl | exact Part.closeSession_locator _ | exact Part.cutTail_locator _

@[simp] theorem Part.terminate_locator (p : Part) (c : Cause) : (p.terminate c).locator = p.locator := by
  unfold Part.terminate
  split
  · exact Part.beginTail_locator _
  · rfl

@[simp] theorem Part.checkFull_outer (p : Part) : (p.checkFull).outer = p.outer := by
  unfold Part.checkFull
  (try dsimp only); (repeat' split) <;> (try dsimp only) <;> (repeat' split) <;> simp [Metering.same, Metering.asEven]

@[simp] theorem Part.checkFull_steady (p : Part) : (p.checkFull).steady = p.steady := by
  unfold Part.checkFull
  (try dsimp only); (repeat' split) <;> (try dsimp only) <;> (repeat' split) <;> simp [Metering.same, Metering.asEven]

@[simp] theorem Part.moveByBand_outer (p : Part) : (p.moveByBand).outer = p.outer := by
  unfold Part.moveByBand
  (try dsimp only); (repeat' split) <;> (try dsimp only) <;> (repeat' split) <;> simp [Metering.same, Metering.asEven]

@[simp] theorem Part.moveByBand_steady (p : Part) : (p.moveByBand).steady = p.steady := by
  unfold Part.moveByBand
  (try dsimp only); (repeat' split) <;> (try dsimp only) <;> (repeat' split) <;> simp [Metering.same, Metering.asEven]

@[simp] theorem Part.enterPowered_outer (p : Part) : (p.enterPowered).outer = p.outer := by
  unfold Part.enterPowered
  (try dsimp only); (repeat' split) <;> (try dsimp only) <;> (repeat' split) <;> simp [Metering.same, Metering.asEven]

@[simp] theorem Part.enterPowered_steady (p : Part) : (p.enterPowered).steady = p.steady := by
  unfold Part.enterPowered
  (try dsimp only); (repeat' split) <;> (try dsimp only) <;> (repeat' split) <;> simp [Metering.same, Metering.asEven]

@[simp] theorem Part.addCause_outer (p : Part) (c : Suspension) : (p.addCause c).outer = p.outer := by
  unfold Part.addCause
  (try dsimp only); (repeat' split) <;> (try dsimp only) <;> (repeat' split) <;> simp [Metering.same, Metering.asEven]

@[simp] theorem Part.addCause_steady (p : Part) (c : Suspension) : (p.addCause c).steady = p.steady := by
  unfold Part.addCause
  (try dsimp only); (repeat' split) <;> (try dsimp only) <;> (repeat' split) <;> simp [Metering.same, Metering.asEven]

@[simp] theorem Part.resumeTests_outer (p : Part) : (p.resumeTests).outer = p.outer := by
  unfold Part.resumeTests
  (try dsimp only); (repeat' split) <;> (try dsimp only) <;> (repeat' split) <;> simp [Metering.same, Metering.asEven]

@[simp] theorem Part.resumeTests_steady (p : Part) : (p.resumeTests).steady = p.steady := by
  unfold Part.resumeTests
  (try dsimp only); (repeat' split) <;> (try dsimp only) <;> (repeat' split) <;> simp [Metering.same, Metering.asEven]

@[simp] theorem Part.resumeSession_outer (p : Part) : (p.resumeSession).outer = p.outer := by
  unfold Part.resumeSession
  (try dsimp only); (repeat' split) <;> (try dsimp only) <;> (repeat' split) <;> simp [Metering.same, Metering.asEven]

@[simp] theorem Part.resumeSession_steady (p : Part) : (p.resumeSession).steady = p.steady := by
  unfold Part.resumeSession
  (try dsimp only); (repeat' split) <;> (try dsimp only) <;> (repeat' split) <;> simp [Metering.same, Metering.asEven]

@[simp] theorem Part.removeCause_outer (p : Part) (c : Suspension) : (p.removeCause c).outer = p.outer := by
  unfold Part.removeCause
  (try dsimp only); (repeat' split) <;> (try dsimp only) <;> (repeat' split) <;> simp [Metering.same, Metering.asEven]

@[simp] theorem Part.removeCause_steady (p : Part) (c : Suspension) : (p.removeCause c).steady = p.steady := by
  unfold Part.removeCause
  (try dsimp only); (repeat' split) <;> (try dsimp only) <;> (repeat' split) <;> simp [Metering.same, Metering.asEven]

@[simp] theorem Part.enterConnecting_outer (p : Part) (k : ChargeKind) : (p.enterConnecting k).outer = p.outer := by
  unfold Part.enterConnecting
  (try dsimp only); (repeat' split) <;> (try dsimp only) <;> (repeat' split) <;> simp [Metering.same, Metering.asEven]

@[simp] theorem Part.enterConnecting_steady (p : Part) (k : ChargeKind) : (p.enterConnecting k).steady = p.steady := by
  unfold Part.enterConnecting
  (try dsimp only); (repeat' split) <;> (try dsimp only) <;> (repeat' split) <;> simp [Metering.same, Metering.asEven]

@[simp] theorem Part.plugWait_outer (p : Part) : (p.plugWait).outer = p.outer := by
  unfold Part.plugWait
  (try dsimp only); (repeat' split) <;> (try dsimp only) <;> (repeat' split) <;> simp [Metering.same, Metering.asEven]

@[simp] theorem Part.plugWait_steady (p : Part) : (p.plugWait).steady = p.steady := by
  unfold Part.plugWait
  (try dsimp only); (repeat' split) <;> (try dsimp only) <;> (repeat' split) <;> simp [Metering.same, Metering.asEven]

@[simp] theorem Part.reportContactor_outer (p : Part) (b : Branch) : (p.reportContactor b).outer = p.outer := by
  unfold Part.reportContactor
  (try dsimp only); (repeat' split) <;> (try dsimp only) <;> (repeat' split) <;> simp [Metering.same, Metering.asEven]

@[simp] theorem Part.reportContactor_steady (p : Part) (b : Branch) : (p.reportContactor b).steady = p.steady := by
  unfold Part.reportContactor
  (try dsimp only); (repeat' split) <;> (try dsimp only) <;> (repeat' split) <;> simp [Metering.same, Metering.asEven]

@[simp] theorem Part.addTraction_outer (p : Part) (n : Nat) : (p.addTraction n).outer = p.outer := by
  unfold Part.addTraction
  (try dsimp only); (repeat' split) <;> (try dsimp only) <;> (repeat' split) <;> simp [Metering.same, Metering.asEven]

@[simp] theorem Part.addTraction_steady (p : Part) (n : Nat) : (p.addTraction n).steady = p.steady := by
  unfold Part.addTraction
  (try dsimp only); (repeat' split) <;> (try dsimp only) <;> (repeat' split) <;> simp [Metering.same, Metering.asEven]

@[simp] theorem Part.takeTail_outer (p : Part) (n : Nat) : (p.takeTail n).outer = p.outer := by
  unfold Part.takeTail
  (try dsimp only); (repeat' split) <;> (try dsimp only) <;> (repeat' split) <;> simp [Metering.same, Metering.asEven]

@[simp] theorem Part.takeTail_steady (p : Part) (n : Nat) : (p.takeTail n).steady = p.steady := by
  unfold Part.takeTail
  (try dsimp only); (repeat' split) <;> (try dsimp only) <;> (repeat' split) <;> simp [Metering.same, Metering.asEven]

@[simp] theorem Part.acceptInlet_outer (p : Part) (n : Nat) : (p.acceptInlet n).outer = p.outer := by
  unfold Part.acceptInlet
  (try dsimp only); (repeat' split) <;> (try dsimp only) <;> (repeat' split) <;> simp [Metering.same, Metering.asEven]

@[simp] theorem Part.judgeInlet_outer (p : Part) (r : InletReadings) : (p.judgeInlet r).outer = p.outer := by
  unfold Part.judgeInlet
  (try dsimp only); (repeat' split) <;> (try dsimp only) <;> (repeat' split) <;> simp [Metering.same, Metering.asEven]

@[simp] theorem Part.judgeInlet_steady (p : Part) (r : InletReadings) : (p.judgeInlet r).steady = p.steady := by
  unfold Part.judgeInlet
  (try dsimp only); (repeat' split) <;> (try dsimp only) <;> (repeat' split) <;> simp [Metering.same, Metering.asEven]

@[simp] theorem Part.inletReturns_outer (p : Part) (r : InletReadings) : (p.inletReturns r).outer = p.outer := by
  unfold Part.inletReturns
  (try dsimp only); (repeat' split) <;> (try dsimp only) <;> (repeat' split) <;> simp [Metering.same, Metering.asEven]

@[simp] theorem Part.inletReturns_steady (p : Part) (r : InletReadings) : (p.inletReturns r).steady = p.steady := by
  unfold Part.inletReturns
  (try dsimp only); (repeat' split) <;> (try dsimp only) <;> (repeat' split) <;> simp [Metering.same, Metering.asEven]

@[simp] theorem Part.inletLost_outer (p : Part) : (p.inletLost).outer = p.outer := by
  unfold Part.inletLost
  (try dsimp only); (repeat' split) <;> (try dsimp only) <;> (repeat' split) <;> simp [Metering.same, Metering.asEven]

@[simp] theorem Part.inletLost_steady (p : Part) : (p.inletLost).steady = p.steady := by
  unfold Part.inletLost
  (try dsimp only); (repeat' split) <;> (try dsimp only) <;> (repeat' split) <;> simp [Metering.same, Metering.asEven]

@[simp] theorem Part.monitorLost_outer (p : Part) : (p.monitorLost).outer = p.outer := by
  unfold Part.monitorLost
  (try dsimp only); (repeat' split) <;> (try dsimp only) <;> (repeat' split) <;> simp [Metering.same, Metering.asEven]

@[simp] theorem Part.monitorLost_steady (p : Part) : (p.monitorLost).steady = p.steady := by
  unfold Part.monitorLost
  (try dsimp only); (repeat' split) <;> (try dsimp only) <;> (repeat' split) <;> simp [Metering.same, Metering.asEven]

@[simp] theorem Part.monitorBack_outer (p : Part) : (p.monitorBack).outer = p.outer := by
  unfold Part.monitorBack
  (try dsimp only); (repeat' split) <;> (try dsimp only) <;> (repeat' split) <;> simp [Metering.same, Metering.asEven]

@[simp] theorem Part.monitorBack_steady (p : Part) : (p.monitorBack).steady = p.steady := by
  unfold Part.monitorBack
  (try dsimp only); (repeat' split) <;> (try dsimp only) <;> (repeat' split) <;> simp [Metering.same, Metering.asEven]

@[simp] theorem Part.sessionTrip_outer (p : Part) : (p.sessionTrip).outer = p.outer := by
  unfold Part.sessionTrip
  (try dsimp only); (repeat' split) <;> (try dsimp only) <;> (repeat' split) <;> simp [Metering.same, Metering.asEven]

@[simp] theorem Part.sessionTrip_steady (p : Part) : (p.sessionTrip).steady = p.steady := by
  unfold Part.sessionTrip
  (try dsimp only); (repeat' split) <;> (try dsimp only) <;> (repeat' split) <;> simp [Metering.same, Metering.asEven]

end Sys2Proof.Machine
end

