-- ==== Sys2Proof/Laws/KeptMonitor.lean ====
section
/-! SUPPORT. What the operations of the Branch Locator and the Insulation Monitor keep. -/

set_option linter.unusedSimpArgs false

namespace Sys2Proof.Machine

@[simp] theorem Part.setShed_outer (p : Part) (b : Branch) (v : Bool) : (p.setShed b v).outer = p.outer := by
  unfold Part.setShed
  (try dsimp only); (repeat' split) <;> (try dsimp only) <;> (repeat' split) <;> simp [Metering.same, Metering.asEven]

@[simp] theorem Part.setShed_steady (p : Part) (b : Branch) (v : Bool) : (p.setShed b v).steady = p.steady := by
  unfold Part.setShed
  (try dsimp only); (repeat' split) <;> (try dsimp only) <;> (repeat' split) <;> simp [Metering.same, Metering.asEven]

@[simp] theorem Part.recomputeDue_outer (p : Part) : (p.recomputeDue).outer = p.outer := by
  unfold Part.recomputeDue
  (try dsimp only); (repeat' split) <;> (try dsimp only) <;> (repeat' split) <;> simp [Metering.same, Metering.asEven]

@[simp] theorem Part.recomputeDue_steady (p : Part) : (p.recomputeDue).steady = p.steady := by
  unfold Part.recomputeDue
  (try dsimp only); (repeat' split) <;> (try dsimp only) <;> (repeat' split) <;> simp [Metering.same, Metering.asEven]

@[simp] theorem Part.stepResult_outer (p : Part) (n : Nat) (r : StepResult) : (p.stepResult n r).outer = p.outer := by
  unfold Part.stepResult
  (try dsimp only); (repeat' split) <;> (try dsimp only) <;> (repeat' split) <;> simp [Metering.same, Metering.asEven]

@[simp] theorem Part.stepResult_steady (p : Part) (n : Nat) (r : StepResult) : (p.stepResult n r).steady = p.steady := by
  unfold Part.stepResult
  (try dsimp only); (repeat' split) <;> (try dsimp only) <;> (repeat' split) <;> simp [Metering.same, Metering.asEven]

@[simp] theorem Part.endProcedure_outer (p : Part) (h : LocateEnd) : (p.endProcedure h).outer = p.outer := by
  unfold Part.endProcedure
  (try dsimp only); (repeat' split) <;> (try dsimp only) <;> (repeat' split) <;> simp [Metering.same, Metering.asEven]

@[simp] theorem Part.endProcedure_steady (p : Part) (h : LocateEnd) : (p.endProcedure h).steady = p.steady := by
  unfold Part.endProcedure
  (try dsimp only); (repeat' split) <;> (try dsimp only) <;> (repeat' split) <;> simp [Metering.same, Metering.asEven]

@[simp] theorem Part.verdictBus_outer (p : Part) : (p.verdictBus).outer = p.outer := by
  unfold Part.verdictBus
  (try dsimp only); (repeat' split) <;> (try dsimp only) <;> (repeat' split) <;> simp [Metering.same, Metering.asEven]

@[simp] theorem Part.applyQuarantine_outer (p : Part) (b : Branch) : (p.applyQuarantine b).outer = p.outer := by
  unfold Part.applyQuarantine
  (try dsimp only); (repeat' split) <;> (try dsimp only) <;> (repeat' split) <;> simp [Metering.same, Metering.asEven]

@[simp] theorem Part.verdictQuarantined_outer (p : Part) (b : Branch) (n : Nat) : (p.verdictQuarantined b n).outer = p.outer := by simp [Part.verdictQuarantined]

@[simp] theorem Part.beginStep_outer (bs : List Branch) (n : Nat) (p : Part) :
    (Part.beginStep bs n p).outer = p.outer := by
  induction bs generalizing n p with
  | nil => simp [Part.beginStep]
  | cons b bs ih => simp only [Part.beginStep]; split <;> simp [ih]

@[simp] theorem Part.advanceStep_outer (p : Part) : (p.advanceStep).outer = p.outer := by
  unfold Part.advanceStep
  (try dsimp only); (repeat' split) <;> (try dsimp only) <;> (repeat' split) <;> simp [Metering.same, Metering.asEven]

@[simp] theorem Part.startProcedure_outer (p : Part) (n : Nat) : (p.startProcedure n).outer = p.outer := by
  unfold Part.startProcedure
  (try dsimp only); (repeat' split) <;> (try dsimp only) <;> (repeat' split) <;> simp [Metering.same, Metering.asEven]

@[simp] theorem Part.notIsolated_outer (p : Part) (b : Branch) : (p.notIsolated b).outer = p.outer := by
  unfold Part.notIsolated
  (try dsimp only); (repeat' split) <;> (try dsimp only) <;> (repeat' split) <;> simp [Metering.same, Metering.asEven]

@[simp] theorem Part.locateConfirmed_outer (p : Part) (b : Branch) (c : Bool) :
    (p.locateConfirmed b c).outer = p.outer := by
  unfold Part.locateConfirmed
  (try dsimp only); (repeat' split) <;> (try dsimp only) <;> (repeat' split) <;> simp [Metering.same, Metering.asEven]

@[simp] theorem Part.locateFailed_outer (p : Part) (b : Branch) (c : Bool) :
    (p.locateFailed b c).outer = p.outer := by
  unfold Part.locateFailed
  (try dsimp only); (repeat' split) <;> (try dsimp only) <;> (repeat' split) <;> simp [Metering.same, Metering.asEven]

@[simp] theorem Part.locateMoved_outer (p : Part) (b : Branch) : (p.locateMoved b).outer = p.outer := by
  unfold Part.locateMoved
  (try dsimp only); (repeat' split) <;> (try dsimp only) <;> (repeat' split) <;> simp [Metering.same, Metering.asEven]

@[simp] theorem Part.restoreTested_outer (p : Part) (b : Branch) : (p.restoreTested b).outer = p.outer := by
  unfold Part.restoreTested
  (try dsimp only); (repeat' split) <;> (try dsimp only) <;> (repeat' split) <;> simp [Metering.same, Metering.asEven]

@[simp] theorem Part.stepSample_outer (p : Part) (t : InsulationTable) (n : Nat) : (p.stepSample t n).outer = p.outer := by
  unfold Part.stepSample
  (try dsimp only); (repeat' split) <;> (try dsimp only) <;> (repeat' split) <;> simp [Metering.same, Metering.asEven]

@[simp] theorem Part.handToLocator_outer (p : Part) (t : InsulationTable) (n : Nat) (l : Bool) : (p.handToLocator t n l).outer = p.outer := by
  unfold Part.handToLocator
  (try dsimp only); (repeat' split) <;> (try dsimp only) <;> (repeat' split) <;> simp [Metering.same, Metering.asEven]

@[simp] theorem Part.clearTestedShed_outer (p : Part) : (p.clearTestedShed).outer = p.outer := by
  unfold Part.clearTestedShed
  (try dsimp only); (repeat' split) <;> (try dsimp only) <;> (repeat' split) <;> simp [Metering.same, Metering.asEven]

@[simp] theorem Part.clearTestedShed_steady (p : Part) : (p.clearTestedShed).steady = p.steady := by
  unfold Part.clearTestedShed
  (try dsimp only); (repeat' split) <;> (try dsimp only) <;> (repeat' split) <;> simp [Metering.same, Metering.asEven]

@[simp] theorem Part.abandon_outer (p : Part) (r : AbandonReason) : (p.abandon r).outer = p.outer := by
  unfold Part.abandon
  (try dsimp only); (repeat' split) <;> (try dsimp only) <;> (repeat' split) <;> simp [Metering.same, Metering.asEven]

@[simp] theorem Part.abandon_steady (p : Part) (r : AbandonReason) : (p.abandon r).steady = p.steady := by
  unfold Part.abandon
  (try dsimp only); (repeat' split) <;> (try dsimp only) <;> (repeat' split) <;> simp [Metering.same, Metering.asEven]

@[simp] theorem Part.autoLocate_outer (p : Part) : (p.autoLocate).outer = p.outer := by
  unfold Part.autoLocate
  (try dsimp only); (repeat' split) <;> (try dsimp only) <;> (repeat' split) <;> simp [Metering.same, Metering.asEven]

@[simp] theorem Part.autoLocate_steady (p : Part) : (p.autoLocate).steady = p.steady := by
  unfold Part.autoLocate
  (try dsimp only); (repeat' split) <;> (try dsimp only) <;> (repeat' split) <;> simp [Metering.same, Metering.asEven]

@[simp] theorem Monitor.countersCleared_table (m : Monitor) : m.countersCleared.table = m.table := by cases m; rfl
@[simp] theorem Monitor.countersCleared_tripLatch (m : Monitor) : m.countersCleared.tripLatch = m.tripLatch := by cases m; rfl
@[simp] theorem Monitor.settleCleared_table (m : Monitor) : m.settleCleared.table = m.table := by cases m; rfl
@[simp] theorem Monitor.settleCleared_tripLatch (m : Monitor) : m.settleCleared.tripLatch = m.tripLatch := by cases m; rfl

@[simp] theorem Part.queueMode_outer (p : Part) : (p.queueMode).outer = p.outer := by
  unfold Part.queueMode
  (try dsimp only); (repeat' split) <;> (try dsimp only) <;> (repeat' split) <;> simp [Metering.same, Metering.asEven]

@[simp] theorem Part.queueMode_steady (p : Part) : (p.queueMode).steady = p.steady := by
  unfold Part.queueMode
  (try dsimp only); (repeat' split) <;> (try dsimp only) <;> (repeat' split) <;> simp [Metering.same, Metering.asEven]

@[simp] theorem Part.syncMode_outer (p : Part) : (p.syncMode).outer = p.outer := by
  unfold Part.syncMode
  (try dsimp only); (repeat' split) <;> (try dsimp only) <;> (repeat' split) <;> simp [Metering.same, Metering.asEven]

@[simp] theorem Part.syncMode_steady (p : Part) : (p.syncMode).steady = p.steady := by
  unfold Part.syncMode
  (try dsimp only); (repeat' split) <;> (try dsimp only) <;> (repeat' split) <;> simp [Metering.same, Metering.asEven]

@[simp] theorem Part.enterMonitor_outer (p : Part) (st : MonitorState) (r : Option UnknownReason) : (p.enterMonitor st r).outer = p.outer := by
  unfold Part.enterMonitor
  (try dsimp only); (repeat' split) <;> (try dsimp only) <;> (repeat' split) <;> simp [Metering.same, Metering.asEven]

@[simp] theorem Part.enterMonitor_steady (p : Part) (st : MonitorState) (r : Option UnknownReason) : (p.enterMonitor st r).steady = p.steady := by
  unfold Part.enterMonitor
  (try dsimp only); (repeat' split) <;> (try dsimp only) <;> (repeat' split) <;> simp [Metering.same, Metering.asEven]

@[simp] theorem Part.enterSettling_outer (p : Part) : (p.enterSettling).outer = p.outer := by
  unfold Part.enterSettling
  (try dsimp only); (repeat' split) <;> (try dsimp only) <;> (repeat' split) <;> simp [Metering.same, Metering.asEven]

@[simp] theorem Part.enterSettling_steady (p : Part) : (p.enterSettling).steady = p.steady := by
  unfold Part.enterSettling
  (try dsimp only); (repeat' split) <;> (try dsimp only) <;> (repeat' split) <;> simp [Metering.same, Metering.asEven]

@[simp] theorem Part.settleRequest_outer (p : Part) : (p.settleRequest).outer = p.outer := by
  unfold Part.settleRequest
  (try dsimp only); (repeat' split) <;> (try dsimp only) <;> (repeat' split) <;> simp [Metering.same, Metering.asEven]

@[simp] theorem Part.settleRequest_steady (p : Part) : (p.settleRequest).steady = p.steady := by
  unfold Part.settleRequest
  (try dsimp only); (repeat' split) <;> (try dsimp only) <;> (repeat' split) <;> simp [Metering.same, Metering.asEven]

@[simp] theorem Part.enterChecking_outer (p : Part) : (p.enterChecking).outer = p.outer := by
  unfold Part.enterChecking
  (try dsimp only); (repeat' split) <;> (try dsimp only) <;> (repeat' split) <;> simp [Metering.same, Metering.asEven]

@[simp] theorem Part.enterChecking_steady (p : Part) : (p.enterChecking).steady = p.steady := by
  unfold Part.enterChecking
  (try dsimp only); (repeat' split) <;> (try dsimp only) <;> (repeat' split) <;> simp [Metering.same, Metering.asEven]

@[simp] theorem Part.enterUnknown_outer (p : Part) (r : UnknownReason) : (p.enterUnknown r).outer = p.outer := by
  unfold Part.enterUnknown
  (try dsimp only); (repeat' split) <;> (try dsimp only) <;> (repeat' split) <;> simp [Metering.same, Metering.asEven]

@[simp] theorem Part.enterUnknown_steady (p : Part) (r : UnknownReason) : (p.enterUnknown r).steady = p.steady := by
  unfold Part.enterUnknown
  (try dsimp only); (repeat' split) <;> (try dsimp only) <;> (repeat' split) <;> simp [Metering.same, Metering.asEven]

@[simp] theorem Part.trip_outer (p : Part) (a b : Nat) : (p.trip a b).outer = p.outer := by
  unfold Part.trip
  (try dsimp only); (repeat' split) <;> (try dsimp only) <;> (repeat' split) <;> simp [Metering.same, Metering.asEven]

@[simp] theorem Part.endSelfCheck_outer (p : Part) (t : InsulationTable) (f : Option CheckFailure) (r : Option Nat) : (p.endSelfCheck t f r).outer = p.outer := by
  unfold Part.endSelfCheck
  (try dsimp only); (repeat' split) <;> (try dsimp only) <;> (repeat' split) <;> simp [Metering.same, Metering.asEven]

@[simp] theorem Part.endSelfCheck_steady (p : Part) (t : InsulationTable) (f : Option CheckFailure) (r : Option Nat) : (p.endSelfCheck t f r).steady = p.steady := by
  unfold Part.endSelfCheck
  (try dsimp only); (repeat' split) <;> (try dsimp only) <;> (repeat' split) <;> simp [Metering.same, Metering.asEven]

@[simp] theorem Part.checkSample_outer (p : Part) (t : InsulationTable) (r : Nat) : (p.checkSample t r).outer = p.outer := by
  unfold Part.checkSample
  (try dsimp only); (repeat' split) <;> (try dsimp only) <;> (repeat' split) <;> simp [Metering.same, Metering.asEven]

@[simp] theorem Part.checkSample_steady (p : Part) (t : InsulationTable) (r : Nat) : (p.checkSample t r).steady = p.steady := by
  unfold Part.checkSample
  (try dsimp only); (repeat' split) <;> (try dsimp only) <;> (repeat' split) <;> simp [Metering.same, Metering.asEven]

@[simp] theorem Part.setLatest_outer (p : Part) (n : Nat) : (p.setLatest n).outer = p.outer := by
  unfold Part.setLatest
  (try dsimp only); (repeat' split) <;> (try dsimp only) <;> (repeat' split) <;> simp [Metering.same, Metering.asEven]

@[simp] theorem Part.setLatest_steady (p : Part) (n : Nat) : (p.setLatest n).steady = p.steady := by
  unfold Part.setLatest
  (try dsimp only); (repeat' split) <;> (try dsimp only) <;> (repeat' split) <;> simp [Metering.same, Metering.asEven]

@[simp] theorem Part.lowerRecord_outer (p : Part) (n : Nat) : (p.lowerRecord n).outer = p.outer := by
  unfold Part.lowerRecord
  (try dsimp only); (repeat' split) <;> (try dsimp only) <;> (repeat' split) <;> simp [Metering.same, Metering.asEven]

@[simp] theorem Part.lowerRecord_steady (p : Part) (n : Nat) : (p.lowerRecord n).steady = p.steady := by
  unfold Part.lowerRecord
  (try dsimp only); (repeat' split) <;> (try dsimp only) <;> (repeat' split) <;> simp [Metering.same, Metering.asEven]

@[simp] theorem Part.warnTest_outer (p : Part) (t : InsulationTable) (c : ContextRecord) (n : Nat) : (p.warnTest t c n).outer = p.outer := by
  unfold Part.warnTest
  (try dsimp only); (repeat' split) <;> (try dsimp only) <;> (repeat' split) <;> simp [Metering.same, Metering.asEven]

@[simp] theorem Part.warnTest_steady (p : Part) (t : InsulationTable) (c : ContextRecord) (n : Nat) : (p.warnTest t c n).steady = p.steady := by
  unfold Part.warnTest
  (try dsimp only); (repeat' split) <;> (try dsimp only) <;> (repeat' split) <;> simp [Metering.same, Metering.asEven]

@[simp] theorem Part.recoverTest_outer (p : Part) (c : ContextRecord) (n : Nat) : (p.recoverTest c n).outer = p.outer := by
  unfold Part.recoverTest
  (try dsimp only); (repeat' split) <;> (try dsimp only) <;> (repeat' split) <;> simp [Metering.same, Metering.asEven]

@[simp] theorem Part.recoverTest_steady (p : Part) (c : ContextRecord) (n : Nat) : (p.recoverTest c n).steady = p.steady := by
  unfold Part.recoverTest
  (try dsimp only); (repeat' split) <;> (try dsimp only) <;> (repeat' split) <;> simp [Metering.same, Metering.asEven]

@[simp] theorem Part.judgeSample_outer (p : Part) (t : InsulationTable) (n : Nat) (l : Bool) : (p.judgeSample t n l).outer = p.outer := by
  unfold Part.judgeSample
  (try dsimp only); (repeat' split) <;> (try dsimp only) <;> (repeat' split) <;> simp [Metering.same, Metering.asEven]

@[simp] theorem Part.settleSample_outer (p : Part) (t : InsulationTable) (n : Nat) (l : Bool) : (p.settleSample t n l).outer = p.outer := by
  unfold Part.settleSample
  (try dsimp only); (repeat' split) <;> (try dsimp only) <;> (repeat' split) <;> simp [Metering.same, Metering.asEven]

@[simp] theorem Part.countedSample_outer (p : Part) (t : InsulationTable) (r : InjectorReadings) (l : Bool) : (p.countedSample t r l).outer = p.outer := by
  unfold Part.countedSample
  (try dsimp only); (repeat' split) <;> (try dsimp only) <;> (repeat' split) <;> simp [Metering.same, Metering.asEven]

@[simp] theorem Part.takeInjector_outer (p : Part) (r : InjectorReadings) (b : Bool) : (p.takeInjector r b).outer = p.outer := by
  unfold Part.takeInjector
  (try dsimp only); (repeat' split) <;> (try dsimp only) <;> (repeat' split) <;> simp [Metering.same, Metering.asEven]

@[simp] theorem Part.injectorLost_outer (p : Part) : (p.injectorLost).outer = p.outer := by
  unfold Part.injectorLost
  (try dsimp only); (repeat' split) <;> (try dsimp only) <;> (repeat' split) <;> simp [Metering.same, Metering.asEven]

@[simp] theorem Part.injectorLost_steady (p : Part) : (p.injectorLost).steady = p.steady := by
  unfold Part.injectorLost
  (try dsimp only); (repeat' split) <;> (try dsimp only) <;> (repeat' split) <;> simp [Metering.same, Metering.asEven]

@[simp] theorem Part.modeFailed_outer (p : Part) : (p.modeFailed).outer = p.outer := by
  unfold Part.modeFailed
  (try dsimp only); (repeat' split) <;> (try dsimp only) <;> (repeat' split) <;> simp [Metering.same, Metering.asEven]

@[simp] theorem Part.modeFailed_steady (p : Part) : (p.modeFailed).steady = p.steady := by
  unfold Part.modeFailed
  (try dsimp only); (repeat' split) <;> (try dsimp only) <;> (repeat' split) <;> simp [Metering.same, Metering.asEven]

@[simp] theorem Part.examineContext_outer (p : Part) : (p.examineContext).outer = p.outer := by
  unfold Part.examineContext
  (try dsimp only); (repeat' split) <;> (try dsimp only) <;> (repeat' split) <;> simp [Metering.same, Metering.asEven]

@[simp] theorem Part.examineContext_steady (p : Part) : (p.examineContext).steady = p.steady := by
  unfold Part.examineContext
  (try dsimp only); (repeat' split) <;> (try dsimp only) <;> (repeat' split) <;> simp [Metering.same, Metering.asEven]

@[simp] theorem Part.startMonitor_outer (p : Part) (w : WakeState) : (p.startMonitor w).outer = p.outer := by
  unfold Part.startMonitor
  (try dsimp only); (repeat' split) <;> (try dsimp only) <;> (repeat' split) <;> simp [Metering.same, Metering.asEven]

@[simp] theorem Part.startMonitor_steady (p : Part) (w : WakeState) : (p.startMonitor w).steady = p.steady := by
  unfold Part.startMonitor
  (try dsimp only); (repeat' split) <;> (try dsimp only) <;> (repeat' split) <;> simp [Metering.same, Metering.asEven]

@[simp] theorem Part.sleepMonitor_outer (p : Part) : (p.sleepMonitor).outer = p.outer := by
  unfold Part.sleepMonitor
  (try dsimp only); (repeat' split) <;> (try dsimp only) <;> (repeat' split) <;> simp [Metering.same, Metering.asEven]

@[simp] theorem Part.sleepMonitor_steady (p : Part) : (p.sleepMonitor).steady = p.steady := by
  unfold Part.sleepMonitor
  (try dsimp only); (repeat' split) <;> (try dsimp only) <;> (repeat' split) <;> simp [Metering.same, Metering.asEven]

end Sys2Proof.Machine
end

