-- ==== Sys2Proof/Laws/KeptFinish.lean ====
section
/-! SUPPORT. What the Budget Arbiter's operations and the end of an event keep. -/

set_option linter.unusedSimpArgs false

namespace Sys2Proof.Machine

@[simp] theorem Part.cutBursts_outer (p : Part) : (p.cutBursts).outer = p.outer := by
  unfold Part.cutBursts
  (try dsimp only); (repeat' split) <;> (try dsimp only) <;> (repeat' split) <;> simp [Metering.same, Metering.asEven]

@[simp] theorem Part.cutBursts_steady (p : Part) : (p.cutBursts).steady = p.steady := by
  unfold Part.cutBursts
  (try dsimp only); (repeat' split) <;> (try dsimp only) <;> (repeat' split) <;> simp [Metering.same, Metering.asEven]

@[simp] theorem Part.setGrants_outer (p : Part) : (p.setGrants).outer = p.outer := by
  unfold Part.setGrants
  (try dsimp only); (repeat' split) <;> (try dsimp only) <;> (repeat' split) <;> simp [Metering.same, Metering.asEven]

@[simp] theorem Part.setGrants_steady (p : Part) : (p.setGrants).steady = p.steady := by
  unfold Part.setGrants
  (try dsimp only); (repeat' split) <;> (try dsimp only) <;> (repeat' split) <;> simp [Metering.same, Metering.asEven]

@[simp] theorem Part.recompute_outer (p : Part) : (p.recompute).outer = p.outer := by
  unfold Part.recompute
  (try dsimp only); (repeat' split) <;> (try dsimp only) <;> (repeat' split) <;> simp [Metering.same, Metering.asEven]

@[simp] theorem Part.recompute_steady (p : Part) : (p.recompute).steady = p.steady := by
  unfold Part.recompute
  (try dsimp only); (repeat' split) <;> (try dsimp only) <;> (repeat' split) <;> simp [Metering.same, Metering.asEven]

@[simp] theorem Part.recomputeAndHandOver_outer (p : Part) : (p.recomputeAndHandOver).outer = p.outer := by
  unfold Part.recomputeAndHandOver
  (try dsimp only); (repeat' split) <;> (try dsimp only) <;> (repeat' split) <;> simp [Metering.same, Metering.asEven]

@[simp] theorem Part.recomputeAndHandOver_steady (p : Part) : (p.recomputeAndHandOver).steady = p.steady := by
  unfold Part.recomputeAndHandOver
  (try dsimp only); (repeat' split) <;> (try dsimp only) <;> (repeat' split) <;> simp [Metering.same, Metering.asEven]

@[simp] theorem Part.setFigures_outer (p : Part) : (p.setFigures).outer = p.outer := by
  unfold Part.setFigures
  (try dsimp only); (repeat' split) <;> (try dsimp only) <;> (repeat' split) <;> simp [Metering.same, Metering.asEven]

@[simp] theorem Part.setFigures_steady (p : Part) : (p.setFigures).steady = p.steady := by
  unfold Part.setFigures
  (try dsimp only); (repeat' split) <;> (try dsimp only) <;> (repeat' split) <;> simp [Metering.same, Metering.asEven]

@[simp] theorem Part.checkOverdrawn_outer (p : Part) : (p.checkOverdrawn).outer = p.outer := by
  unfold Part.checkOverdrawn
  (try dsimp only); (repeat' split) <;> (try dsimp only) <;> (repeat' split) <;> simp [Metering.same, Metering.asEven]

@[simp] theorem Part.checkOverdrawn_steady (p : Part) : (p.checkOverdrawn).steady = p.steady := by
  unfold Part.checkOverdrawn
  (try dsimp only); (repeat' split) <;> (try dsimp only) <;> (repeat' split) <;> simp [Metering.same, Metering.asEven]

@[simp] theorem Part.settleBudget_outer (p : Part) : (p.settleBudget).outer = p.outer := by
  unfold Part.settleBudget
  (try dsimp only); (repeat' split) <;> (try dsimp only) <;> (repeat' split) <;> simp [Metering.same, Metering.asEven]

@[simp] theorem Part.settleBudget_steady (p : Part) : (p.settleBudget).steady = p.steady := by
  unfold Part.settleBudget
  (try dsimp only); (repeat' split) <;> (try dsimp only) <;> (repeat' split) <;> simp [Metering.same, Metering.asEven]

@[simp] theorem Part.clampConverter_outer (p : Part) : (p.clampConverter).outer = p.outer := by
  unfold Part.clampConverter
  (try dsimp only); (repeat' split) <;> (try dsimp only) <;> (repeat' split) <;> simp [Metering.same, Metering.asEven]

@[simp] theorem Part.clampConverter_steady (p : Part) : (p.clampConverter).steady = p.steady := by
  unfold Part.clampConverter
  (try dsimp only); (repeat' split) <;> (try dsimp only) <;> (repeat' split) <;> simp [Metering.same, Metering.asEven]

@[simp] theorem Part.clampInlet_outer (p : Part) : (p.clampInlet).outer = p.outer := by
  unfold Part.clampInlet
  (try dsimp only); (repeat' split) <;> (try dsimp only) <;> (repeat' split) <;> simp [Metering.same, Metering.asEven]

@[simp] theorem Part.clampInlet_steady (p : Part) : (p.clampInlet).steady = p.steady := by
  unfold Part.clampInlet
  (try dsimp only); (repeat' split) <;> (try dsimp only) <;> (repeat' split) <;> simp [Metering.same, Metering.asEven]

@[simp] theorem Part.settleDraw_outer (p : Part) : (p.settleDraw).outer = p.outer := by
  unfold Part.settleDraw
  (try dsimp only); (repeat' split) <;> (try dsimp only) <;> (repeat' split) <;> simp [Metering.same, Metering.asEven]

@[simp] theorem Part.settleDraw_steady (p : Part) : (p.settleDraw).steady = p.steady := by
  unfold Part.settleDraw
  (try dsimp only); (repeat' split) <;> (try dsimp only) <;> (repeat' split) <;> simp [Metering.same, Metering.asEven]

@[simp] theorem Part.placePreheat_outer (p : Part) : (p.placePreheat).outer = p.outer := by
  unfold Part.placePreheat
  (try dsimp only); (repeat' split) <;> (try dsimp only) <;> (repeat' split) <;> simp [Metering.same, Metering.asEven]

@[simp] theorem Part.placePreheat_steady (p : Part) : (p.placePreheat).steady = p.steady := by
  unfold Part.placePreheat
  (try dsimp only); (repeat' split) <;> (try dsimp only) <;> (repeat' split) <;> simp [Metering.same, Metering.asEven]

@[simp] theorem Part.setTargets_outer (p : Part) : (p.setTargets).outer = p.outer := by
  unfold Part.setTargets
  (try dsimp only); (repeat' split) <;> (try dsimp only) <;> (repeat' split) <;> simp [Metering.same, Metering.asEven]

@[simp] theorem Part.setTargets_steady (p : Part) : (p.setTargets).steady = p.steady := by
  unfold Part.setTargets
  (try dsimp only); (repeat' split) <;> (try dsimp only) <;> (repeat' split) <;> simp [Metering.same, Metering.asEven]

@[simp] theorem Part.settleHeat_outer (p : Part) : (p.settleHeat).outer = p.outer := by
  unfold Part.settleHeat
  (try dsimp only); (repeat' split) <;> (try dsimp only) <;> (repeat' split) <;> simp [Metering.same, Metering.asEven]

@[simp] theorem Part.settleHeat_steady (p : Part) : (p.settleHeat).steady = p.steady := by
  unfold Part.settleHeat
  (try dsimp only); (repeat' split) <;> (try dsimp only) <;> (repeat' split) <;> simp [Metering.same, Metering.asEven]

@[simp] theorem Part.round_outer (p : Part) : (p.round).outer = p.outer := by
  unfold Part.round
  (try dsimp only); (repeat' split) <;> (try dsimp only) <;> (repeat' split) <;> simp [Metering.same, Metering.asEven]

@[simp] theorem Part.round_steady (p : Part) : (p.round).steady = p.steady := by
  unfold Part.round
  (try dsimp only); (repeat' split) <;> (try dsimp only) <;> (repeat' split) <;> simp [Metering.same, Metering.asEven]

@[simp] theorem Part.finish_outer (p : Part) : (p.finish).outer = p.outer := by
  unfold Part.finish
  (try dsimp only); (repeat' split) <;> (try dsimp only) <;> (repeat' split) <;> simp [Metering.same, Metering.asEven]

@[simp] theorem Part.finish_steady (p : Part) : (p.finish).steady = p.steady := by
  unfold Part.finish
  (try dsimp only); (repeat' split) <;> (try dsimp only) <;> (repeat' split) <;> simp [Metering.same, Metering.asEven]

end Sys2Proof.Machine
end

