-- ==== Sys2Proof/Laws/Settled.lean ====
section
/-! SUPPORT. What the end of an event establishes: every branch as the branch rule decides it, the grants within
the free power, and the draw limit held. Heating operations keep all that the branch rule and the arbiter decide
from (`aside`); the arbiter keeps the branch rule's part of it (`wired`). -/

set_option linter.unusedSimpArgs false

namespace Sys2Proof.Machine

/-- What the branch rule reads and writes, with the session. -/
structure Wired where
  branches : PerBranch BranchEntry
  safeLine : Bool
  partState : PartState
  monitor : Monitor
  session : Session

/-- What the branch rule reads and writes, read from the part. -/
def Part.wired (p : Part) : Wired := ⟨p.drive.branches, p.drive.safeLine, p.mgmt.partState, p.monitor, p.session⟩

/-- That, with the Budget Arbiter. -/
def Part.aside (p : Part) : Wired × Budget := (p.wired, p.budget)

/-! ## The heating operations -/

@[simp] theorem Part.modHeat_aside (p : Part) (g : Heating → Heating) : (p.modHeat g).aside = p.aside := rfl
@[simp] theorem Part.modZone_aside (p : Part) (z : Zone) (g : ZoneContext → ZoneContext) :
    (p.modZone z g).aside = p.aside := rfl

@[simp] theorem Part.raise_aside (p : Part) (b : NoticeBody) : (p.raise b).aside = p.aside := by
  unfold Part.raise Part.modMgmt
  dsimp only
  split
  · rfl
  · split <;> rfl

@[simp] theorem Part.queueDrive_aside (p : Part) (d : Drive) : (p.queueDrive d).aside = p.aside := by
  unfold Part.queueDrive
  split <;> rfl

@[simp] theorem Part.queueHeatSet_aside (p : Part) : (p.queueHeatSet).aside = p.aside := by
  unfold Part.queueHeatSet
  (try dsimp only); (repeat' split) <;> (try dsimp only) <;> (repeat' split) <;> simp

@[simp] theorem Part.enterWaiting_aside (p : Part) (z : Zone) : (p.enterWaiting z).aside = p.aside := by
  unfold Part.enterWaiting
  (try dsimp only); (repeat' split) <;> (try dsimp only) <;> (repeat' split) <;> simp

@[simp] theorem Part.leaveWaiting_aside (p : Part) (z : Zone) : (p.leaveWaiting z).aside = p.aside := by
  unfold Part.leaveWaiting
  (try dsimp only); (repeat' split) <;> (try dsimp only) <;> (repeat' split) <;> simp

@[simp] theorem Part.setDemand_aside (p : Part) (z : Zone) (b : Bool) : (p.setDemand z b).aside = p.aside := by
  unfold Part.setDemand
  (try dsimp only); (repeat' split) <;> (try dsimp only) <;> (repeat' split) <;> simp

@[simp] theorem Part.evalDemand_aside (p : Part) : (p.evalDemand).aside = p.aside := by
  unfold Part.evalDemand
  (try dsimp only); (repeat' split) <;> (try dsimp only) <;> (repeat' split) <;> simp

@[simp] theorem Part.startBurst_aside (p : Part) (t : HeatTable) (z : Zone) : (p.startBurst t z).aside = p.aside := by
  unfold Part.startBurst
  (try dsimp only); (repeat' split) <;> (try dsimp only) <;> (repeat' split) <;> simp

@[simp] theorem Part.endBurst_aside (p : Part) (e : Ending) (z : Zone) : (p.endBurst e z).aside = p.aside := by
  unfold Part.endBurst
  (try dsimp only); (repeat' split) <;> (try dsimp only) <;> (repeat' split) <;> simp

@[simp] theorem Part.enterFrom_aside (t : HeatTable) (zs : List Zone) (p : Part) :
    (Part.enterFrom t zs p).aside = p.aside := by
  induction zs generalizing p with
  | nil => rfl
  | cons z zs ih => unfold Part.enterFrom; split <;> simp [ih]

@[simp] theorem Part.endBurstsOf_aside (e : Ending) (zs : List Zone) (p : Part) :
    (Part.endBurstsOf e zs p).aside = p.aside := by
  induction zs generalizing p with
  | nil => rfl
  | cons z zs ih => simp [Part.endBurstsOf, ih]

@[simp] theorem Part.enterBursts_aside (p : Part) : (p.enterBursts).aside = p.aside := by
  unfold Part.enterBursts
  (try dsimp only); (repeat' split) <;> (try dsimp only) <;> (repeat' split) <;> simp

@[simp] theorem Part.cutBursts_aside (p : Part) : (p.cutBursts).aside = p.aside := by
  unfold Part.cutBursts
  (try dsimp only); (repeat' split) <;> (try dsimp only) <;> (repeat' split) <;> simp

@[simp] theorem Part.placePreheat_aside (p : Part) : (p.placePreheat).aside = p.aside := by
  unfold Part.placePreheat
  (try dsimp only); (repeat' split) <;> (try dsimp only) <;> (repeat' split) <;> simp

@[simp] theorem Part.setTargets_aside (p : Part) : (p.setTargets).aside = p.aside := by
  unfold Part.setTargets
  (try dsimp only); (repeat' split) <;> (try dsimp only) <;> (repeat' split) <;> simp

@[simp] theorem Part.settleHeat_aside (p : Part) : (p.settleHeat).aside = p.aside := by
  unfold Part.settleHeat
  (try dsimp only); (repeat' split) <;> (try dsimp only) <;> (repeat' split) <;> simp

theorem Part.budget_of_aside {p q : Part} (h : q.aside = p.aside) : q.budget = p.budget := congrArg Prod.snd h

theorem Part.wired_of_aside {p q : Part} (h : q.aside = p.aside) : q.wired = p.wired := congrArg Prod.fst h

/-! ## The Budget Arbiter -/

@[simp] theorem Part.modBudget_wired (p : Part) (g : Budget → Budget) : (p.modBudget g).wired = p.wired := rfl
@[simp] theorem Part.raise_wired (p : Part) (b : NoticeBody) : (p.raise b).wired = p.wired :=
  Part.wired_of_aside (p.raise_aside b)
@[simp] theorem Part.enterBursts_wired (p : Part) : p.enterBursts.wired = p.wired :=
  Part.wired_of_aside p.enterBursts_aside
@[simp] theorem Part.cutBursts_wired (p : Part) : p.cutBursts.wired = p.wired :=
  Part.wired_of_aside p.cutBursts_aside
@[simp] theorem Part.settleHeat_wired (p : Part) : p.settleHeat.wired = p.wired :=
  Part.wired_of_aside p.settleHeat_aside

@[simp] theorem Part.setFigures_wired (p : Part) : (p.setFigures).wired = p.wired := by
  unfold Part.setFigures
  (try dsimp only); (repeat' split) <;> (try dsimp only) <;> (repeat' split) <;> simp

@[simp] theorem Part.checkOverdrawn_wired (p : Part) : (p.checkOverdrawn).wired = p.wired := by
  unfold Part.checkOverdrawn
  (try dsimp only); (repeat' split) <;> (try dsimp only) <;> (repeat' split) <;> simp

@[simp] theorem Part.setGrants_wired (p : Part) : (p.setGrants).wired = p.wired := by
  unfold Part.setGrants
  (try dsimp only); (repeat' split) <;> (try dsimp only) <;> (repeat' split) <;> simp

@[simp] theorem Part.recompute_wired (p : Part) : (p.recompute).wired = p.wired := by
  unfold Part.recompute
  (try dsimp only); (repeat' split) <;> (try dsimp only) <;> (repeat' split) <;> simp

@[simp] theorem Part.recomputeAndHandOver_wired (p : Part) : (p.recomputeAndHandOver).wired = p.wired := by
  unfold Part.recomputeAndHandOver
  (try dsimp only); (repeat' split) <;> (try dsimp only) <;> (repeat' split) <;> simp

@[simp] theorem Part.settleBudget_wired (p : Part) : (p.settleBudget).wired = p.wired := by
  unfold Part.settleBudget
  (try dsimp only); (repeat' split) <;> (try dsimp only) <;> (repeat' split) <;> simp

/-- R63, R64: what is granted to asks lies within the power to grant. -/
theorem askedPower_grantHeat (asks : List HeatAsk) (free : Nat) : askedPower (grantHeat asks free) ≤ free := by
  induction asks generalizing free with
  | nil => exact Nat.zero_le _
  | cons a rest ih =>
    unfold grantHeat
    split
    · next fits =>
      have := ih (free - a.power)
      simp only [askedPower, List.map_cons, List.sum_cons] at this ⊢
      omega
    · exact Nat.zero_le _

theorem grantsFor_within (p : Part) (asks : List HeatAsk) (charge : Nat) :
    (p.grantsFor asks charge).heat + (p.grantsFor asks charge).charge ≤ p.budget.available - p.budget.reservation := by
  unfold Part.grantsFor
  split
  · next t _ _ =>
    split
    · have := askedPower_grantHeat asks p.budget.free
      unfold Budget.free at this
      simp only [grantHeatFirst, Budget.free]
      omega
    · have := askedPower_grantHeat asks (p.budget.free - min (min charge t.table.chargeFloor) p.budget.free)
      unfold Budget.free at this
      simp only [grantChargeFirst, Budget.free]
      omega
  · exact Nat.zero_le _

theorem Part.setGrants_grantsWithin (p : Part) : p.setGrants.grantsWithin := grantsFor_within p ..

theorem Part.recompute_grantsWithin (p : Part) : p.recompute.grantsWithin := Part.setGrants_grantsWithin _

theorem Part.grantsWithin_of_budget {p q : Part} (h : q.budget = p.budget) (w : p.grantsWithin) : q.grantsWithin := by
  unfold Part.grantsWithin
  rw [h]
  exact w

theorem Part.recomputeAndHandOver_grantsWithin (p : Part) : p.recomputeAndHandOver.grantsWithin := by
  unfold Part.recomputeAndHandOver
  dsimp only
  split
  · exact Part.grantsWithin_of_budget (Part.budget_of_aside p.recompute.enterBursts_aside) p.recompute_grantsWithin
  · exact Part.recompute_grantsWithin _

/-- R62: the Budget Arbiter leaves its grants within the free power. -/
theorem Part.settleBudget_grantsWithin (p : Part) : p.settleBudget.grantsWithin := by
  unfold Part.settleBudget
  dsimp only
  split
  · exact Part.recomputeAndHandOver_grantsWithin _
  · next quiet =>
    simp only [Part.recomputeCaused, Bool.or_eq_true, decide_eq_true_eq, not_or, Budget.free] at quiet
    have := of_decide_eq_false (Bool.eq_false_iff.mpr quiet.1.1.2)
    unfold Part.grantsWithin
    omega

/-! ## The Drive Unit -/

theorem BranchEntry.decided_commanded (e : BranchEntry) (inRun tripped : Bool) (now : Nat) :
    (e.decided inRun tripped now).commanded = (e.decided inRun tripped now).closes inRun tripped := by
  unfold BranchEntry.decided
  dsimp only
  split
  · next same => exact same.symm
  · rfl

/-- R21, R23: the branch rule leaves every branch decided. -/
theorem Part.decideBranches_switchesDecided (p : Part) : p.decideBranches.switchesDecided := by
  have w : p.decideBranches.wired
      = ⟨p.drive.branches.map fun e : BranchEntry => e.decided p.inRun p.tripped p.now,
        ((p.drive.branches.map fun e : BranchEntry => e.decided p.inRun p.tripped p.now).main).commanded, p.mgmt.partState,
        p.monitor, p.session⟩ := by
    unfold Part.decideBranches
    dsimp only
    split <;> split <;>
      first
        | rfl
        | (rw [Part.wired_of_aside (Part.queueDrive_aside ..)]; rfl)
        | (rw [Part.wired_of_aside (Part.queueDrive_aside ..), Part.wired_of_aside (Part.queueDrive_aside ..)]; rfl)
  have hb := congrArg Wired.branches w
  have hs := congrArg Wired.safeLine w
  have hp := congrArg Wired.partState w
  have hm := congrArg Wired.monitor w
  simp only [Part.wired] at hb hs hp hm
  constructor
  · intro b
    simp only [Part.shouldClose, Part.branch, Part.inRun, Part.tripped, hb, hp, hm]
    cases b <;> exact BranchEntry.decided_commanded ..
  · rw [hs, Part.branch, hb]
    rfl

theorem Part.switchesDecided_of_wired {p q : Part} (h : q.wired = p.wired) (d : p.switchesDecided) :
    q.switchesDecided := by
  have hb := congrArg Wired.branches h
  have hs := congrArg Wired.safeLine h
  have hp := congrArg Wired.partState h
  have hm := congrArg Wired.monitor h
  simp only [Part.wired] at hb hs hp hm
  constructor
  · intro b
    have := d.1 b
    simp only [Part.shouldClose, Part.branch, Part.inRun, Part.tripped, hb, hp, hm] at this ⊢
    exact this
  · have := d.2
    simp only [Part.branch, hb, hs] at this ⊢
    exact this

/-! ## The Order Clamp -/

/-- What the draw limit and the target limits are read from. -/
def Part.limitsFrom (p : Part) : Session × NodeTable × Budget := (p.session, p.nodes, p.budget)

theorem Part.clampConverter_leaves (p : Part) :
    p.clampConverter.limitsFrom = p.limitsFrom ∧ p.clampConverter.wired.branches = p.drive.branches
      ∧ p.clampConverter.wired.safeLine = p.drive.safeLine ∧ p.clampConverter.mgmt = p.mgmt
      ∧ p.clampConverter.monitor = p.monitor ∧ p.clampConverter.clamp.inlet = p.clamp.inlet
      ∧ ∀ v, p.clampConverter.clamp.converter = some v → v ≤ p.converterLimit := by
  unfold Part.clampConverter
  split
  · next none_ => exact ⟨rfl, rfl, rfl, rfl, rfl, rfl, fun v h => by rw [none_] at h; cases h⟩
  · next last some_ =>
    split
    · unfold Part.queueDrive
      split <;> exact ⟨rfl, rfl, rfl, rfl, rfl, rfl, fun v h => by cases h; exact Nat.le_refl _⟩
    · next within =>
      exact ⟨rfl, rfl, rfl, rfl, rfl, rfl, fun v h => by rw [some_] at h; cases h; omega⟩

theorem Part.clampInlet_leaves (p : Part) :
    p.clampInlet.limitsFrom = p.limitsFrom ∧ p.clampInlet.wired.branches = p.drive.branches
      ∧ p.clampInlet.wired.safeLine = p.drive.safeLine ∧ p.clampInlet.mgmt = p.mgmt
      ∧ p.clampInlet.monitor = p.monitor ∧ p.clampInlet.clamp.converter = p.clamp.converter
      ∧ ∀ v, p.clampInlet.clamp.inlet = some v → v ≤ p.inletLimit := by
  unfold Part.clampInlet
  split
  · next none_ => exact ⟨rfl, rfl, rfl, rfl, rfl, rfl, fun v h => by rw [none_] at h; cases h⟩
  · next last some_ =>
    split
    · unfold Part.queueDrive
      split <;> exact ⟨rfl, rfl, rfl, rfl, rfl, rfl, fun v h => by cases h; exact Nat.le_refl _⟩
    · next within =>
      exact ⟨rfl, rfl, rfl, rfl, rfl, rfl, fun v h => by rw [some_] at h; cases h; omega⟩

theorem Part.converterLimit_of_limitsFrom {p q : Part} (h : q.limitsFrom = p.limitsFrom) :
    q.converterLimit = p.converterLimit := by
  have hs : q.session = p.session := congrArg Prod.fst h
  unfold Part.converterLimit
  rw [hs]

theorem Part.inletLimit_of_limitsFrom {p q : Part} (h : q.limitsFrom = p.limitsFrom) :
    q.inletLimit = p.inletLimit := by
  have hs : q.session = p.session := congrArg Prod.fst h
  have hn : q.nodes = p.nodes := congrArg (fun x => x.2.1) h
  unfold Part.inletLimit Part.livePack Part.live
  rw [hs, hn]

theorem Part.drawLimitNow_of_limitsFrom {p q : Part} (h : q.limitsFrom = p.limitsFrom) :
    q.drawLimitNow = p.drawLimitNow := by
  have hs : q.session = p.session := congrArg Prod.fst h
  have hb : q.budget = p.budget := congrArg (fun x => x.2.2) h
  unfold Part.drawLimitNow
  rw [hs, hb]

/-- R82, R18: the draw limit is set and held. -/
theorem Part.settleDraw_drawHeld (p : Part) : p.settleDraw.drawHeld := by
  unfold Part.settleDraw
  generalize hq : p.modSession (fun s => { s with drawLimit := p.drawLimitNow }) = q
  have limit : q.session.drawLimit = q.drawLimitNow := by subst hq; rfl
  obtain ⟨c1, _, _, _, _, _, c7⟩ := q.clampConverter_leaves
  obtain ⟨i1, _, _, _, _, i6, i7⟩ := q.clampConverter.clampInlet_leaves
  have both := i1.trans c1
  refine ⟨?_, ?_, ?_⟩
  · rw [Part.drawLimitNow_of_limitsFrom both, ← limit]
    exact congrArg (fun x => (Prod.fst x).drawLimit) both
  · intro v hv
    rw [Part.converterLimit_of_limitsFrom both]
    rw [i6] at hv
    exact c7 v hv
  · intro v hv
    rw [Part.inletLimit_of_limitsFrom i1]
    exact i7 v hv

theorem Part.settleDraw_keeps (p : Part) :
    p.settleDraw.budget = p.budget ∧ p.settleDraw.drive.branches = p.drive.branches
      ∧ p.settleDraw.drive.safeLine = p.drive.safeLine ∧ p.settleDraw.mgmt = p.mgmt
      ∧ p.settleDraw.monitor = p.monitor := by
  unfold Part.settleDraw
  generalize hq : p.modSession (fun s => { s with drawLimit := p.drawLimitNow }) = q
  obtain ⟨c1, c2, c3, c4, c5, _, _⟩ := q.clampConverter_leaves
  obtain ⟨i1, i2, i3, i4, i5, _, _⟩ := q.clampConverter.clampInlet_leaves
  have eb : q.clampConverter.clampInlet.budget = q.budget := congrArg (fun x => x.2.2) (i1.trans c1)
  refine ⟨eb.trans ?_, (i2.trans c2).trans ?_, (i3.trans c3).trans ?_, (i4.trans c4).trans ?_,
    (i5.trans c5).trans ?_⟩ <;> subst hq <;> rfl

/-! ## The end of an event -/

/-- R21, R23: the end of an event leaves every branch as the branch rule decides it. -/
theorem Part.finish_switchesDecided (p : Part) : p.finish.switchesDecided := by
  have d := p.round.round.round.decideBranches_switchesDecided
  unfold Part.finish
  generalize p.round.round.round.decideBranches = q at d ⊢
  have d := Part.switchesDecided_of_wired ((q.settleHeat.settleBudget_wired).trans q.settleHeat_wired) d
  obtain ⟨_, h2, h3, h4, h5⟩ := q.settleHeat.settleBudget.settleDraw_keeps
  constructor
  · intro b
    have := d.1 b
    simp only [Part.shouldClose, Part.branch, Part.inRun, Part.tripped, h2, h4, h5] at this ⊢
    exact this
  · have := d.2
    simp only [Part.branch, h2, h3] at this ⊢
    exact this

/-- R62: the end of an event leaves the grants within the free power. -/
theorem Part.finish_grantsWithin (p : Part) : p.finish.grantsWithin :=
  Part.grantsWithin_of_budget (Part.settleDraw_keeps _).1 (Part.settleBudget_grantsWithin _)

/-- R82, R18: the end of an event leaves the draw limit held. -/
theorem Part.finish_drawHeld (p : Part) : p.finish.drawHeld := Part.settleDraw_drawHeld _

end Sys2Proof.Machine
end

