-- ==== Sys2Proof/Laws/Figures.lean ====
section
/-! SUPPORT. What the end of an event establishes beyond the invariants of Settled.lean: the arbiter's figures follow
from source, tables and readings, no recompute and no evaluation of demand is left over, and the effective targets are
those the sources give. Bursts and hand-overs keep all that the figures (`figures`) and the targets (`aims`) rest on. -/

namespace Sys2Proof.Machine

/-- The arbiter's figures with what a recompute leaves alone. -/
structure Figures where
  table : Option (Loaded BudgetTable)
  source : Source
  socAbove : Bool
  available : Nat
  reservation : Nat
  overdrawn : Bool
  window : List Nat

/-- The arbiter's figures, read from the part. -/
def Part.figures (p : Part) : Figures :=
  ⟨p.budget.table, p.budget.source, p.budget.socAbove, p.budget.available, p.budget.reservation,
    p.budget.overdrawn, p.budget.window⟩

/-- What the effective targets rest on, and the targets. -/
structure Aims where
  nodes : NodeTable
  table : Option (Loaded HeatTable)
  preheat : Option Int
  manual : Option ManualSource
  departures : List Departure
  demandDue : Bool
  targets : PerZone (Option Int)

/-- What the effective targets rest on, read from the part. -/
def Part.aims (p : Part) : Aims :=
  ⟨p.nodes, p.heat.table, p.heat.preheat, p.heat.manual, p.heat.departures, p.heat.demandDue,
    p.heat.zones.map fun c => c.effectiveTarget⟩

theorem Part.figures_of_aside {p q : Part} (h : q.aside = p.aside) : q.figures = p.figures := by
  unfold Part.figures
  rw [Part.budget_of_aside h]

/-- One zone's effective target among the aims. -/
theorem Part.target_of_aims (p : Part) (z : Zone) : (p.zone z).effectiveTarget = p.aims.targets.get z := by
  cases z <;> rfl

/-- The target that the sources give rests on the aims alone. -/
theorem Part.targetNow_of_aims {p q : Part} (h : q.aims = p.aims) (z : Zone) : q.targetNow z = p.targetNow z := by
  have h1 : q.heat.table = p.heat.table := congrArg Aims.table h
  have h2 : q.heat.preheat = p.heat.preheat := congrArg Aims.preheat h
  have h3 : q.heat.manual = p.heat.manual := congrArg Aims.manual h
  have h4 : q.heat.departures = p.heat.departures := congrArg Aims.departures h
  simp only [Part.targetNow, Part.departureTarget, Part.manualTarget, Part.targetOr, Part.zoneRecord, h1, h2, h3, h4]

/-! ## The operations that keep the aims -/

@[simp] theorem Part.queueDrive_aims (p : Part) (d : Drive) : (p.queueDrive d).aims = p.aims := by
  unfold Part.queueDrive
  split <;> rfl

@[simp] theorem Part.raise_aims (p : Part) (b : NoticeBody) : (p.raise b).aims = p.aims := rfl

@[simp] theorem Part.endBurst_aims (p : Part) (e : Ending) (z : Zone) : (p.endBurst e z).aims = p.aims := by
  unfold Part.endBurst
  split
  · rw [Part.raise_aims]
    unfold Part.queueHeatSet
    rw [Part.queueDrive_aims]
    cases z <;> rfl
  · rfl

@[simp] theorem Part.startBurst_aims (p : Part) (t : HeatTable) (z : Zone) : (p.startBurst t z).aims = p.aims := by
  unfold Part.startBurst
  rw [Part.raise_aims]
  unfold Part.queueHeatSet
  rw [Part.queueDrive_aims]
  cases z <;> rfl

@[simp] theorem Part.endBurstsOf_aims (e : Ending) (zs : List Zone) (p : Part) :
    (Part.endBurstsOf e zs p).aims = p.aims := by
  induction zs generalizing p with
  | nil => rfl
  | cons z zs ih => rw [Part.endBurstsOf, ih, Part.endBurst_aims]

@[simp] theorem Part.enterFrom_aims (t : HeatTable) (zs : List Zone) (p : Part) :
    (Part.enterFrom t zs p).aims = p.aims := by
  induction zs generalizing p with
  | nil => rfl
  | cons z zs ih =>
    rw [Part.enterFrom]
    split
    · rw [ih, Part.startBurst_aims]
    · rfl

@[simp] theorem Part.cutBursts_aims (p : Part) : p.cutBursts.aims = p.aims := by
  unfold Part.cutBursts
  split
  · rfl
  · exact Part.endBurstsOf_aims ..

@[simp] theorem Part.enterBursts_aims (p : Part) : p.enterBursts.aims = p.aims := by
  unfold Part.enterBursts
  split
  · rfl
  · exact Part.enterFrom_aims ..

@[simp] theorem Part.setDemand_aims (p : Part) (z : Zone) (f : Bool) : (p.setDemand z f).aims = p.aims := by
  unfold Part.setDemand
  cases (p.zone z).state <;> cases f <;> cases z <;> rfl

@[simp] theorem Part.evalDemand_aims (p : Part) : p.evalDemand.aims = p.aims := by
  simp [Part.evalDemand]

@[simp] theorem Part.recompute_aims (p : Part) : p.recompute.aims = p.aims :=
  (show p.cutBursts.setGrants.aims = p.cutBursts.aims from rfl).trans p.cutBursts_aims

@[simp] theorem Part.recomputeAndHandOver_aims (p : Part) : p.recomputeAndHandOver.aims = p.aims := by
  unfold Part.recomputeAndHandOver
  dsimp only
  split <;> simp

/-! ## The arbiter -/

@[simp] theorem Part.recompute_figures (p : Part) : p.recompute.figures = p.figures :=
  (show p.cutBursts.setGrants.figures = p.cutBursts.figures from rfl).trans
    (Part.figures_of_aside p.cutBursts_aside)

@[simp] theorem Part.enterBursts_figures (p : Part) : p.enterBursts.figures = p.figures :=
  Part.figures_of_aside p.enterBursts_aside

@[simp] theorem Part.recomputeAndHandOver_figures (p : Part) : p.recomputeAndHandOver.figures = p.figures := by
  unfold Part.recomputeAndHandOver
  dsimp only
  split <;> simp

/-- A recompute with its hand-over leaves no cause behind. -/
theorem Part.recomputeAndHandOver_done (p : Part) : p.recomputeAndHandOver.budget.recomputeDue = false := by
  unfold Part.recomputeAndHandOver
  dsimp only
  split
  · rw [Part.budget_of_aside p.recompute.enterBursts_aside]
    rfl
  · rfl

/-- The figures as source, tables and readings give them. -/
theorem Part.checkOverdrawn_figures (p : Part) :
    p.setFigures.checkOverdrawn.figures = ⟨p.budget.table, p.sourceNow, p.socAboveNow, p.availableOn p.sourceNow,
      p.reservationOn p.sourceNow, p.setFigures.budget.overdrawnNow, p.budget.window⟩ := by
  unfold Part.checkOverdrawn
  dsimp only
  split <;> rfl

/-- What the Budget Arbiter does at the end of an event: it sets the figures, and leaves no cause of recompute. -/
theorem Part.settleBudget_sets (p : Part) :
    p.settleBudget.figures = p.setFigures.checkOverdrawn.figures ∧ p.settleBudget.aims = p.aims
      ∧ p.settleBudget.budget.recomputeDue = false := by
  have h : p.setFigures.checkOverdrawn.aims = p.aims := by
    unfold Part.checkOverdrawn
    dsimp only
    split <;> rfl
  have d : ¬ p.setFigures.checkOverdrawn.recomputeCaused p.budget = true →
      p.setFigures.checkOverdrawn.budget.recomputeDue = false := by
    intro n
    simp only [Part.recomputeCaused, Bool.or_eq_true, not_or, Bool.not_eq_true] at n
    exact n.1.1.1.1.1.1.1
  unfold Part.settleBudget
  dsimp only
  split
  · exact ⟨Part.recomputeAndHandOver_figures _, (Part.recomputeAndHandOver_aims _).trans h,
      Part.recomputeAndHandOver_done _⟩
  · exact ⟨rfl, h, d ‹_›⟩

/-! ## Heating -/

/-- What heating does at the end of an event: the preheat demand as the session places it, the effective targets as
the sources give them, and no evaluation left over (R80, R100, R101). -/
theorem Part.settleHeat_sets (p : Part) :
    p.settleHeat.heat.demandDue = false
      ∧ p.settleHeat.heat.preheat = (if p.session.state = .preheat then p.session.chargeEnable else none)
      ∧ ∀ z, (p.settleHeat.zone z).effectiveTarget = p.settleHeat.targetNow z := by
  have a : p.settleHeat.aims = ((p.placePreheat.setTargets).modHeat fun h => { h with demandDue := false }).aims := by
    unfold Part.settleHeat
    dsimp only
    split
    · exact Part.evalDemand_aims _
    · rfl
  refine ⟨congrArg Aims.demandDue a, congrArg Aims.preheat a, fun z => ?_⟩
  rw [Part.target_of_aims, Part.targetNow_of_aims a, a]
  cases z <;> rfl

/-! ## The draw limit -/

/-- The clamp drives leave heating, session and Node Table alone, so R82 changes the draw limit alone of them. -/
theorem Part.settleDraw_sets (p : Part) :
    p.settleDraw.heat = p.heat ∧ p.settleDraw.session = { p.session with drawLimit := p.drawLimitNow }
      ∧ p.settleDraw.nodes = p.nodes := by
  have q : ∀ (p : Part) (d : Drive), (p.queueDrive d).heat = p.heat ∧ (p.queueDrive d).session = p.session
      ∧ (p.queueDrive d).nodes = p.nodes := by
    intro p d
    unfold Part.queueDrive
    split <;> exact ⟨rfl, rfl, rfl⟩
  have c : ∀ p : Part, p.clampConverter.heat = p.heat ∧ p.clampConverter.session = p.session
      ∧ p.clampConverter.nodes = p.nodes := by
    intro p
    unfold Part.clampConverter
    split
    · exact ⟨rfl, rfl, rfl⟩
    · split
      · exact q _ _
      · exact ⟨rfl, rfl, rfl⟩
  have i : ∀ p : Part, p.clampInlet.heat = p.heat ∧ p.clampInlet.session = p.session
      ∧ p.clampInlet.nodes = p.nodes := by
    intro p
    unfold Part.clampInlet
    split
    · exact ⟨rfl, rfl, rfl⟩
    · split
      · exact q _ _
      · exact ⟨rfl, rfl, rfl⟩
  unfold Part.settleDraw
  generalize hq : p.modSession (fun s => { s with drawLimit := p.drawLimitNow }) = r
  obtain ⟨c1, c2, c3⟩ := c r
  obtain ⟨i1, i2, i3⟩ := i r.clampConverter
  exact ⟨(i1.trans c1).trans (by rw [← hq]; rfl), (i2.trans c2).trans (by rw [← hq]; rfl),
    (i3.trans c3).trans (by rw [← hq]; rfl)⟩

end Sys2Proof.Machine
end

