-- ==== Sys2Proof/Laws/KeptNodes.lean ====
section
/-! SUPPORT. What the use of samples and the failure of switch changes keep. -/

set_option linter.unusedSimpArgs false

namespace Sys2Proof.Machine

@[simp] theorem Part.connectConfirmed_outer (p : Part) (b : Branch) (c : Bool) : (p.connectConfirmed b c).outer = p.outer := by
  unfold Part.connectConfirmed
  (try dsimp only); (repeat' split) <;> (try dsimp only) <;> (repeat' split) <;> simp [Metering.same, Metering.asEven]

@[simp] theorem Part.connectConfirmed_steady (p : Part) (b : Branch) (c : Bool) : (p.connectConfirmed b c).steady = p.steady := by
  unfold Part.connectConfirmed
  (try dsimp only); (repeat' split) <;> (try dsimp only) <;> (repeat' split) <;> simp [Metering.same, Metering.asEven]

@[simp] theorem Part.tellFeedback_outer (p : Part) (b : Branch) (r : Bool) (o : FeedbackOutcome) : (p.tellFeedback b r o).outer = p.outer := by
  unfold Part.tellFeedback
  (try dsimp only); (repeat' split) <;> (try dsimp only) <;> (repeat' split) <;> simp [Metering.same, Metering.asEven]

/-- A fold of an operation that keeps `outer` keeps it. -/
theorem Part.foldl_outer {α : Type} (f : Part → α → Part) (h : ∀ p a, (f p a).outer = p.outer) (l : List α)
    (p : Part) : (l.foldl f p).outer = p.outer := by
  induction l generalizing p with
  | nil => rfl
  | cons a l ih => rw [List.foldl_cons, ih, h]

@[simp] theorem Part.takeSwitches_outer (p : Part) (rs : List (Branch × Bool)) :
    (p.takeSwitches rs).outer = p.outer := by
  unfold Part.takeSwitches
  rw [Part.foldl_outer _ (by simp), Part.foldl_outer _ (by simp)]

@[simp] theorem Part.endChange_outer (p : Part) (b : Branch) : (p.endChange b).outer = p.outer := by
  simp [Part.endChange]

@[simp] theorem Part.tellFailed_outer (p : Part) (r : MismatchReason) (b : Branch) (e : BranchEntry) :
    (p.tellFailed r b e).outer = p.outer := by
  simp [Part.tellFailed]

@[simp] theorem Part.failChange_outer (p : Part) (r : MismatchReason) (b : Branch) :
    (p.failChange r b).outer = p.outer := by
  simp [Part.failChange]

@[simp] theorem Part.failNode_outer (r : Role) (bs : List Branch) (p : Part) :
    (Part.failNode r bs p).outer = p.outer := by
  unfold Part.failNode
  rw [Part.foldl_outer _ (by simp), Part.foldl_outer _ (by simp)]

@[simp] theorem Part.meterInlet_outer (p : Part) (e : NodeEntry) (r : InletReadings) : (p.meterInlet e r).outer = p.outer := by
  unfold Part.meterInlet
  (try dsimp only); (repeat' split) <;> (try dsimp only) <;> (repeat' split) <;> simp [Metering.same, Metering.asEven]

@[simp] theorem Part.meterHeater_outer (p : Part) (e : NodeEntry) (r : HeaterReadings) : (p.meterHeater e r).outer = p.outer := by
  unfold Part.meterHeater
  (try dsimp only); (repeat' split) <;> (try dsimp only) <;> (repeat' split) <;> simp [Metering.same, Metering.asEven]

@[simp] theorem Part.meterCargo_outer (p : Part) (e : NodeEntry) (r : CargoReadings) : (p.meterCargo e r).outer = p.outer := by
  unfold Part.meterCargo
  (try dsimp only); (repeat' split) <;> (try dsimp only) <;> (repeat' split) <;> simp [Metering.same, Metering.asEven]

@[simp] theorem Part.usePack_outer (p : Part) : (p.usePack).outer = p.outer := by
  unfold Part.usePack
  (try dsimp only); (repeat' split) <;> (try dsimp only) <;> (repeat' split) <;> simp [Metering.same, Metering.asEven]

@[simp] theorem Part.useHeater_outer (p : Part) (e : NodeEntry) (r : HeaterReadings) (b : Bool) : (p.useHeater e r b).outer = p.outer := by
  unfold Part.useHeater
  (try dsimp only); (repeat' split) <;> (try dsimp only) <;> (repeat' split) <;> simp [Metering.same, Metering.asEven]

@[simp] theorem Part.useCargo_outer (p : Part) (e : NodeEntry) (r : CargoReadings) : (p.useCargo e r).outer = p.outer := by
  unfold Part.useCargo
  (try dsimp only); (repeat' split) <;> (try dsimp only) <;> (repeat' split) <;> simp [Metering.same, Metering.asEven]

@[simp] theorem Part.useConverter_outer (p : Part) (s : ConverterState) : (p.useConverter s).outer = p.outer := by
  unfold Part.useConverter
  (try dsimp only); (repeat' split) <;> (try dsimp only) <;> (repeat' split) <;> simp [Metering.same, Metering.asEven]

/-- Outside DORMANT the use of an INLET sample does not wake the part. -/
theorem Part.useInlet_outer (p : Part) (e : NodeEntry) (r : InletReadings) (h : p.mgmt.partState ≠ .dormant) :
    (p.useInlet e r).outer = p.outer := by
  simp [Part.useInlet, h]

/-- Outside DORMANT the consumers of a sample keep `outer`. -/
theorem Part.consume_outer (p : Part) (e : NodeEntry) (r : Reading) (a b : Bool)
    (h : p.mgmt.partState ≠ .dormant) : (p.consume e r a b).outer = p.outer := by
  unfold Part.consume
  split <;> simp [Part.useInlet_outer, h]

end Sys2Proof.Machine
end

