-- ==== Sys2Proof/Laws/KeptEvents.lean ====
section
/-! SUPPORT. What the reactions to expiries keep. -/

set_option linter.unusedSimpArgs false

namespace Sys2Proof.Machine

@[simp] theorem Part.packLost_outer (p : Part) : (p.packLost).outer = p.outer := by
  unfold Part.packLost
  (try dsimp only); (repeat' split) <;> (try dsimp only) <;> (repeat' split) <;> simp [Metering.same, Metering.asEven]

@[simp] theorem Part.heaterLost_outer (p : Part) : (p.heaterLost).outer = p.outer := by
  unfold Part.heaterLost
  (try dsimp only); (repeat' split) <;> (try dsimp only) <;> (repeat' split) <;> simp [Metering.same, Metering.asEven]

@[simp] theorem Part.reactStale_outer (p : Part) (r : Role) : (p.reactStale r).outer = p.outer := by
  unfold Part.reactStale
  (try dsimp only); (repeat' split) <;> (try dsimp only) <;> (repeat' split) <;> simp [Metering.same, Metering.asEven]

@[simp] theorem Part.burstExpires_outer (p : Part) (z : Zone) : (p.burstExpires z).outer = p.outer := by
  unfold Part.burstExpires
  (try dsimp only); (repeat' split) <;> (try dsimp only) <;> (repeat' split) <;> simp [Metering.same, Metering.asEven]

@[simp] theorem Part.burstExpires_steady (p : Part) (z : Zone) : (p.burstExpires z).steady = p.steady := by
  unfold Part.burstExpires
  (try dsimp only); (repeat' split) <;> (try dsimp only) <;> (repeat' split) <;> simp [Metering.same, Metering.asEven]

@[simp] theorem Part.restExpires_outer (p : Part) (z : Zone) : (p.restExpires z).outer = p.outer := by
  unfold Part.restExpires
  (try dsimp only); (repeat' split) <;> (try dsimp only) <;> (repeat' split) <;> simp [Metering.same, Metering.asEven]

@[simp] theorem Part.restExpires_steady (p : Part) (z : Zone) : (p.restExpires z).steady = p.steady := by
  unfold Part.restExpires
  (try dsimp only); (repeat' split) <;> (try dsimp only) <;> (repeat' split) <;> simp [Metering.same, Metering.asEven]

end Sys2Proof.Machine
end

