-- ==== Sys2Proof/WellFormed.lean ====
section
/-! DEFINITION. Which commands can be put to the block at all. -/

namespace Sys2Proof

/-- A command is well formed when it can happen at the part's connections: a frame arrives when its last
trailer byte has been received (R2), so at least one byte was received. Every other operand is bounded by
its type. -/
def Instr.wellFormed : Instr → Bool
  | .powerOn _ => true
  | .resetInput _ => true
  | .frameArrival bytes => !bytes.isEmpty
  | .transmissionEnd => true
  | .stalenessExpiry _ => true
  | .switchDeadlineExpiry _ => true
  | .heatPendingExpiry _ => true
  | .modeDeadlineExpiry => true
  | .inletStaleGraceExpiry => true
  | .unknownGraceExpiry => true
  | .durationTimerExpiry => true
  | .burstExpiry _ => true
  | .restExpiry _ => true
  | .minuteTick => true
  | .wakeIntervalExpiry => true
  | .loadCommitCompletion => true
  | .unknownCommand => true
  | .status => true
  | .release => true
  | .sleep => true
  | .wake => true
  | .configureMemory => true
  | .setNoticeMask => true
  | .loadBegin => true
  | .loadData => true
  | .loadCommit => true
  | .loadCancel => true
  | .readTable => true
  | .resetLink => true
  | .resetHeat => true
  | .resetPart => true
  | .readBranches => true
  | .setClock => true
  | .readBudget => true
  | .openSession => true
  | .pauseSession => true
  | .resumeSession => true
  | .abortSession => true
  | .splitSession => true
  | .sessionStatus => true
  | .heatNow => true
  | .heatStop => true
  | .setDeparture => true
  | .cancelDeparture => true
  | .readHeat => true
  | .clearTrip => true
  | .selfCheck => true
  | .readInsulation => true
  | .locateNow => true
  | .restoreBranch => true
  | .readFaults => true
  | .readRecord => true
  | .releaseRecords => true

end Sys2Proof
end

