-- ==== Sys2Proof/Laws/PerInstr.lean ====
section
/-! SUPPORT. Statements made per instruction: what the well-formedness check says of each row. -/

namespace Sys2Proof.Laws

/-- A row is well formed exactly when, being a frame arrival, it carries at least one byte: every other
operand is bounded by its type. -/
def Shape.Statement (i : Instr) : Prop :=
  i.wellFormed = true ↔ ∀ bytes, i = .frameArrival bytes → bytes ≠ []

theorem Shape.powerOn (strap : BitVec 2) : Shape.Statement (.powerOn strap) :=
  ⟨fun _ _ h => Instr.noConfusion h, fun _ => rfl⟩

theorem Shape.resetInput (strap : BitVec 2) : Shape.Statement (.resetInput strap) :=
  ⟨fun _ _ h => Instr.noConfusion h, fun _ => rfl⟩

theorem Shape.frameArrival (bytes : List Byte) : Shape.Statement (.frameArrival bytes) := by
  cases bytes with
  | nil => exact ⟨fun h => (Bool.noConfusion h), fun h => absurd rfl (h [] rfl)⟩
  | cons b rest => exact ⟨fun _ _ h => by cases h; exact List.cons_ne_nil b rest, fun _ => rfl⟩

theorem Shape.transmissionEnd : Shape.Statement (.transmissionEnd) :=
  ⟨fun _ _ h => Instr.noConfusion h, fun _ => rfl⟩

theorem Shape.stalenessExpiry (role : Machine.Role) : Shape.Statement (.stalenessExpiry role) :=
  ⟨fun _ _ h => Instr.noConfusion h, fun _ => rfl⟩

theorem Shape.switchDeadlineExpiry (branch : Machine.Branch) : Shape.Statement (.switchDeadlineExpiry branch) :=
  ⟨fun _ _ h => Instr.noConfusion h, fun _ => rfl⟩

theorem Shape.heatPendingExpiry (zone : Machine.Zone) : Shape.Statement (.heatPendingExpiry zone) :=
  ⟨fun _ _ h => Instr.noConfusion h, fun _ => rfl⟩

theorem Shape.modeDeadlineExpiry : Shape.Statement (.modeDeadlineExpiry) :=
  ⟨fun _ _ h => Instr.noConfusion h, fun _ => rfl⟩

theorem Shape.inletStaleGraceExpiry : Shape.Statement (.inletStaleGraceExpiry) :=
  ⟨fun _ _ h => Instr.noConfusion h, fun _ => rfl⟩

theorem Shape.unknownGraceExpiry : Shape.Statement (.unknownGraceExpiry) :=
  ⟨fun _ _ h => Instr.noConfusion h, fun _ => rfl⟩

theorem Shape.durationTimerExpiry : Shape.Statement (.durationTimerExpiry) :=
  ⟨fun _ _ h => Instr.noConfusion h, fun _ => rfl⟩

theorem Shape.burstExpiry (zone : Machine.Zone) : Shape.Statement (.burstExpiry zone) :=
  ⟨fun _ _ h => Instr.noConfusion h, fun _ => rfl⟩

theorem Shape.restExpiry (zone : Machine.Zone) : Shape.Statement (.restExpiry zone) :=
  ⟨fun _ _ h => Instr.noConfusion h, fun _ => rfl⟩

theorem Shape.minuteTick : Shape.Statement (.minuteTick) :=
  ⟨fun _ _ h => Instr.noConfusion h, fun _ => rfl⟩

theorem Shape.wakeIntervalExpiry : Shape.Statement (.wakeIntervalExpiry) :=
  ⟨fun _ _ h => Instr.noConfusion h, fun _ => rfl⟩

theorem Shape.loadCommitCompletion : Shape.Statement (.loadCommitCompletion) :=
  ⟨fun _ _ h => Instr.noConfusion h, fun _ => rfl⟩

theorem Shape.unknownCommand : Shape.Statement (.unknownCommand) :=
  ⟨fun _ _ h => Instr.noConfusion h, fun _ => rfl⟩

theorem Shape.status : Shape.Statement (.status) :=
  ⟨fun _ _ h => Instr.noConfusion h, fun _ => rfl⟩

theorem Shape.release : Shape.Statement (.release) :=
  ⟨fun _ _ h => Instr.noConfusion h, fun _ => rfl⟩

theorem Shape.sleep : Shape.Statement (.sleep) :=
  ⟨fun _ _ h => Instr.noConfusion h, fun _ => rfl⟩

theorem Shape.wake : Shape.Statement (.wake) :=
  ⟨fun _ _ h => Instr.noConfusion h, fun _ => rfl⟩

theorem Shape.configureMemory : Shape.Statement (.configureMemory) :=
  ⟨fun _ _ h => Instr.noConfusion h, fun _ => rfl⟩

theorem Shape.setNoticeMask : Shape.Statement (.setNoticeMask) :=
  ⟨fun _ _ h => Instr.noConfusion h, fun _ => rfl⟩

theorem Shape.loadBegin : Shape.Statement (.loadBegin) :=
  ⟨fun _ _ h => Instr.noConfusion h, fun _ => rfl⟩

theorem Shape.loadData : Shape.Statement (.loadData) :=
  ⟨fun _ _ h => Instr.noConfusion h, fun _ => rfl⟩

theorem Shape.loadCommit : Shape.Statement (.loadCommit) :=
  ⟨fun _ _ h => Instr.noConfusion h, fun _ => rfl⟩

theorem Shape.loadCancel : Shape.Statement (.loadCancel) :=
  ⟨fun _ _ h => Instr.noConfusion h, fun _ => rfl⟩

theorem Shape.readTable : Shape.Statement (.readTable) :=
  ⟨fun _ _ h => Instr.noConfusion h, fun _ => rfl⟩

theorem Shape.resetLink : Shape.Statement (.resetLink) :=
  ⟨fun _ _ h => Instr.noConfusion h, fun _ => rfl⟩

theorem Shape.resetHeat : Shape.Statement (.resetHeat) :=
  ⟨fun _ _ h => Instr.noConfusion h, fun _ => rfl⟩

theorem Shape.resetPart : Shape.Statement (.resetPart) :=
  ⟨fun _ _ h => Instr.noConfusion h, fun _ => rfl⟩

theorem Shape.readBranches : Shape.Statement (.readBranches) :=
  ⟨fun _ _ h => Instr.noConfusion h, fun _ => rfl⟩

theorem Shape.setClock : Shape.Statement (.setClock) :=
  ⟨fun _ _ h => Instr.noConfusion h, fun _ => rfl⟩

theorem Shape.readBudget : Shape.Statement (.readBudget) :=
  ⟨fun _ _ h => Instr.noConfusion h, fun _ => rfl⟩

theorem Shape.openSession : Shape.Statement (.openSession) :=
  ⟨fun _ _ h => Instr.noConfusion h, fun _ => rfl⟩

theorem Shape.pauseSession : Shape.Statement (.pauseSession) :=
  ⟨fun _ _ h => Instr.noConfusion h, fun _ => rfl⟩

theorem Shape.resumeSession : Shape.Statement (.resumeSession) :=
  ⟨fun _ _ h => Instr.noConfusion h, fun _ => rfl⟩

theorem Shape.abortSession : Shape.Statement (.abortSession) :=
  ⟨fun _ _ h => Instr.noConfusion h, fun _ => rfl⟩

theorem Shape.splitSession : Shape.Statement (.splitSession) :=
  ⟨fun _ _ h => Instr.noConfusion h, fun _ => rfl⟩

theorem Shape.sessionStatus : Shape.Statement (.sessionStatus) :=
  ⟨fun _ _ h => Instr.noConfusion h, fun _ => rfl⟩

theorem Shape.heatNow : Shape.Statement (.heatNow) :=
  ⟨fun _ _ h => Instr.noConfusion h, fun _ => rfl⟩

theorem Shape.heatStop : Shape.Statement (.heatStop) :=
  ⟨fun _ _ h => Instr.noConfusion h, fun _ => rfl⟩

theorem Shape.setDeparture : Shape.Statement (.setDeparture) :=
  ⟨fun _ _ h => Instr.noConfusion h, fun _ => rfl⟩

theorem Shape.cancelDeparture : Shape.Statement (.cancelDeparture) :=
  ⟨fun _ _ h => Instr.noConfusion h, fun _ => rfl⟩

theorem Shape.readHeat : Shape.Statement (.readHeat) :=
  ⟨fun _ _ h => Instr.noConfusion h, fun _ => rfl⟩

theorem Shape.clearTrip : Shape.Statement (.clearTrip) :=
  ⟨fun _ _ h => Instr.noConfusion h, fun _ => rfl⟩

theorem Shape.selfCheck : Shape.Statement (.selfCheck) :=
  ⟨fun _ _ h => Instr.noConfusion h, fun _ => rfl⟩

theorem Shape.readInsulation : Shape.Statement (.readInsulation) :=
  ⟨fun _ _ h => Instr.noConfusion h, fun _ => rfl⟩

theorem Shape.locateNow : Shape.Statement (.locateNow) :=
  ⟨fun _ _ h => Instr.noConfusion h, fun _ => rfl⟩

theorem Shape.restoreBranch : Shape.Statement (.restoreBranch) :=
  ⟨fun _ _ h => Instr.noConfusion h, fun _ => rfl⟩

theorem Shape.readFaults : Shape.Statement (.readFaults) :=
  ⟨fun _ _ h => Instr.noConfusion h, fun _ => rfl⟩

theorem Shape.readRecord : Shape.Statement (.readRecord) :=
  ⟨fun _ _ h => Instr.noConfusion h, fun _ => rfl⟩

theorem Shape.releaseRecords : Shape.Statement (.releaseRecords) :=
  ⟨fun _ _ h => Instr.noConfusion h, fun _ => rfl⟩

end Sys2Proof.Laws
end

