-- ==== Sys2Proof/Laws/Taking.lean ====
section
/-! SUPPORT. The taking of the head command, said once: what `Part.takeAs` leads to when the command passes the
gates before its own rule, and what an event's end leaves of the queues. -/

namespace Sys2Proof.Machine

/-! ## What the end of an event leaves alone -/

theorem Management.core_commands (m : Management) : m.core.commands = m.commands := rfl
theorem Management.core_answers (m : Management) : m.core.answers = m.answers := rfl
theorem Management.core_partState (m : Management) : m.core.partState = m.partState := rfl
theorem Management.core_validation (m : Management) : m.core.validation = m.validation := rfl

theorem Part.finish_core (p : Part) : p.finish.mgmt.core = p.mgmt.core :=
  congrArg Outer.core (Part.outer_of_steady p.finish_steady)

@[simp] theorem Part.finish_commands (p : Part) : p.finish.mgmt.commands = p.mgmt.commands := by
  rw [← Management.core_commands, p.finish_core, Management.core_commands]

@[simp] theorem Part.finish_answers (p : Part) : p.finish.mgmt.answers = p.mgmt.answers := by
  rw [← Management.core_answers, p.finish_core, Management.core_answers]

@[simp] theorem Part.finish_partState (p : Part) : p.finish.mgmt.partState = p.mgmt.partState := by
  rw [← Management.core_partState, p.finish_core, Management.core_partState]

@[simp] theorem Part.finish_validation (p : Part) : p.finish.mgmt.validation = p.mgmt.validation := by
  rw [← Management.core_validation, p.finish_core, Management.core_validation]

@[simp] theorem Part.finish_chain (p : Part) : p.finish.chain = p.chain :=
  congrArg Outer.chain (Part.outer_of_steady p.finish_steady)

@[simp] theorem Part.finish_nodes (p : Part) : p.finish.nodes = p.nodes :=
  congrArg Outer.nodes (Part.outer_of_steady p.finish_steady)

@[simp] theorem Part.finish_now (p : Part) : p.finish.now = p.now :=
  congrArg Outer.now (Part.outer_of_steady p.finish_steady)

/-! ## The gates of R178 -/

/-- A payload of the length of 11.3 has room for the code and the tag. -/
theorem three_le_of_lengthOk {name : CommandName} {n : Nat} (named : name ≠ .unknown)
    (fits : lengthOk name n = true) : ¬ n < 3 := by
  cases name <;> simp [lengthOk] at fits named ⊢ <;> omega

/-- R178: a command that passes the steps before its own rule is answered by that rule. -/
theorem Part.examine_of_admits {p : Part} {name : CommandName} {c : Frame} {rest : List Frame}
    (named : name ≠ .unknown) (h : p.Admits name c rest) (work : Part → Frame → Reply) :
    p.examine name work c = work p c := by
  unfold Part.examine
  rw [if_neg (three_le_of_lengthOk named h.fits), if_neg named, if_neg (by simp [h.fits]),
    if_neg (fun hd => by simp [h.awake hd.1] at hd), if_neg (fun hd => by simp [h.released hd.1] at hd)]

/-- R177: the head is taken. -/
theorem Part.takeAs_of_admits {p : Part} {name : CommandName} {c : Frame} {rest : List Frame}
    (named : name ≠ .unknown) (h : p.Admits name c rest) (work : Part → Frame → Reply) :
    p.takeAs name work = respond c p (work p c) := by
  have takeable : p.takeable = true := by simp [Part.takeable, h.queued, h.unheld, h.place]
  unfold Part.takeAs
  rw [h.queued]
  simp only
  rw [if_pos ⟨takeable, h.named⟩, p.examine_of_admits named h]

/-- R177, R179: an answered command leaves the queue, and its answer joins the answer queue. -/
theorem respond_answer {c : Frame} {rest : List Frame} {before after : Part}
    (queued : after.mgmt.commands = c :: rest) (status : Status) (fields : List Byte) :
    respond c before (.answer after status fields) = after.answered c rest status fields := by
  unfold respond Part.dropCommand Part.pushAnswer Part.answered
  simp only [Part.modMgmt, queued, List.drop_succ_cons, List.drop_zero]
  rfl

/-- A command whose work answers: one equation for the taking. -/
theorem Part.takeAs_answered {p after : Part} {name : CommandName} {c : Frame} {rest : List Frame}
    (named : name ≠ .unknown) (h : p.Admits name c rest) {work : Part → Frame → Reply} {status : Status}
    {fields : List Byte} (answers : work p c = .answer after status fields)
    (queued : after.mgmt.commands = p.mgmt.commands) :
    p.takeAs name work = after.answered c rest status fields := by
  rw [p.takeAs_of_admits named h, answers, respond_answer (queued.trans h.queued)]

/-- A row whose command is taken and answered by its work: the row's outcome. -/
theorem State.take_answers {s : State} {after : Part} {name : CommandName} {c : Frame} {rest : List Frame}
    (named : name ≠ .unknown) (h : s.part.Admits name c rest) {work : Part → Frame → Reply} {status : Status}
    {fields : List Byte} (answers : work s.part c = .answer after status fields)
    (queued : after.mgmt.commands = s.part.mgmt.commands) :
    s.take name work = s.answers after c rest status fields := by
  show Host.Outcome.next { s with part := (s.part.takeAs name work).arbitrate } = _
  rw [Part.takeAs_answered named h answers queued]
  rfl

/-- A row whose command is taken and refused: the part stays as it was but for the queues. -/
theorem State.take_refuses {s : State} {name : CommandName} {c : Frame} {rest : List Frame}
    (named : name ≠ .unknown) (h : s.part.Admits name c rest) {work : Part → Frame → Reply} {status : Status}
    (answers : work s.part c = s.part.refuse status) :
    s.take name work = s.answers s.part c rest status [] :=
  State.take_answers named h answers rfl

/-- With another command at the head, or a head that is not takeable, nothing is taken (log 4). -/
theorem Part.takeAs_other {p : Part} {name : CommandName} (work : Part → Frame → Reply)
    (h : p.takeable = false ∨ p.headName ≠ some name) : p.takeAs name work = p := by
  unfold Part.takeAs
  split
  · rfl
  · next c _ queued =>
    split
    · next taken =>
      rcases h with h | h
      · rw [taken.1] at h; cases h
      · exact absurd (by simp [Part.headName, queued, taken.2]) h
    · rfl

end Sys2Proof.Machine
end

