-- ==== Sys2Proof/Tests/Slice0.lean ====
section
/-! SUPPORT. The model's own tests: the smoke test of well-formedness, a few single steps, and for every statement
with hypotheses a state and operands that meet them together, clause by clause. -/

set_option Elab.async false

namespace Sys2Proof.Machine

/-! ## Well-formedness, decoding, the CRC -/

theorem test_empty_frame_is_ill_formed : (Instr.frameArrival []).wellFormed = false := by decide

theorem test_one_byte_is_well_formed : (Instr.frameArrival [0#8]).wellFormed = true := by decide

theorem test_no_word_spells_a_command : decodeTableWord 16 0x1234 = none := by decide

theorem test_withFetchWord_changes_nothing : State.reset.withFetchWord 16 0x1234 = State.reset := by decide

/-- R189: the check value of the CRC over the bytes of "123456789". -/
theorem test_crc16_check_value :
    crc16 [0x31#8, 0x32#8, 0x33#8, 0x34#8, 0x35#8, 0x36#8, 0x37#8, 0x38#8, 0x39#8] = 0x29B1#16 := by
  decide +kernel

/-! ## Small states -/

namespace Trial

/-- A frame to the part from address 1. -/
def frame (k : FrameKind) (payload : List Byte) : Frame := ⟨1#8, 56#8, k, 7#8, 0#8, payload⟩

/-- The part after power-on: HELD. -/
def held : Part := Part.initial 0#2 none

def run : Part := { held with mgmt := { held.mgmt with partState := .run } }

def dormant : Part := { held with mgmt := { held.mgmt with partState := .dormant, wakeAt := some 0 } }

/-- A command waiting alone at the head of the command queue. -/
def asked (p : Part) (payload : List Byte) : Part :=
  { p with mgmt := { p.mgmt with commands := [frame .command payload] } }

def state (p : Part) : State := ⟨p, []⟩

/-- One entry for each role at the addresses 1..8, of period 1,000 ms and stale limit 5. -/
def nodeEntries : List NodeEntry :=
  [⟨.gateway, 1#8, 1000, 5, 0⟩, ⟨.inlet, 2#8, 1000, 5, 1000⟩, ⟨.pack, 3#8, 1000, 5, 0⟩, ⟨.heater, 4#8, 1000, 5, 1000⟩,
    ⟨.cargo, 5#8, 1000, 5, 1000⟩, ⟨.converter, 6#8, 1000, 5, 0⟩, ⟨.contactor, 7#8, 1000, 5, 0⟩,
    ⟨.injector, 8#8, 1000, 5, 0⟩]

/-- Every entry LIVE with sequence 3 since time 0. -/
def liveNodes : NodeTable :=
  { NodeTable.initial with
    table := some ⟨[0#8], nodeEntries⟩, runtime := PerRole.fill ⟨.live, some 3#8, some 0, some 0⟩ }

def chained (p : Part) : Part := { p with nodes := liveNodes }

def zoneRecord : ZoneRecord := ⟨2000, 20, 3, 40, .short, 30, 1⟩

def heatTable : Loaded HeatTable :=
  ⟨[0#8], ⟨.all, 60, 180, 20000, [⟨10, 60⟩], PerZone.fill zoneRecord⟩⟩

def contextRecord : ContextRecord := ⟨400, 150, 3, 2⟩

def insulationTable : Loaded InsulationTable :=
  ⟨[0#8], ⟨30, true, 2, 2, 1000, 50, 2, contextRecord, contextRecord, contextRecord, contextRecord, [.cargo]⟩⟩

def limitTable : Loaded LimitTable := ⟨[0#8], ⟨10, 90, [⟨45, 60000⟩]⟩⟩

def budgetTable (m : OrderMode) : Loaded BudgetTable := ⟨[0#8], ⟨300, 940, m, 2000, 4000, 30, 200, 500⟩⟩

def tariffTable : Loaded TariffTable := ⟨[0#8], ⟨PerAccount.fill 1, []⟩⟩

/-- A part with all six tables in force. -/
def tabled (p : Part) : Part :=
  { p with
    nodes := liveNodes
    session := { p.session with table := some limitTable }
    budget := { p.budget with table := some (budgetTable .heatFirst) }
    meter := { p.meter with tariff := some tariffTable }
    heat := { p.heat with table := some heatTable }
    monitor := { p.monitor with table := some insulationTable } }

def withSession (p : Part) (st : SessionState) (tail : Nat) : Part :=
  { p with session := { p.session with state := st, tailCount := tail } }

def withMonitor (p : Part) (st : MonitorState) : Part := { p with monitor := { p.monitor with state := st } }

/-- Zone 1 in a state with an end time reached at time 0. -/
def withZone (p : Part) (st : ZoneState) (demand quarantine : Bool) : Part :=
  { p with
    heat := { p.heat with
      table := some heatTable
      zones := { p.heat.zones with z1 := { p.heat.zones.z1 with state := st, demand := demand, endTime := some 0 } }
      burstOrder := if st = .burst then [.z1] else [] }
    budget := { p.budget with granted := [.z1] }
    drive := { p.drive with branches :=
      { p.drive.branches with zone1 := { p.drive.branches.zone1 with quarantine := quarantine } } } }

/-- A record as it opens, under a number. -/
def record (number : Nat) : Record :=
  { held.freshRecord number Tags.zero .any false 0 with number := number }

def answerOf (fields : Nat) : Answer := ⟨1#8, 1#8, 0#16, .ok, List.replicate fields 0#8⟩

def withAnswers (p : Part) (as : List Answer) : Part := { p with mgmt := { p.mgmt with answers := as } }

def orderTo (dst : Byte) (function : Byte) : Frame := ⟨1#8, dst, .order, 0#8, 0#8, [function, 0#8, 10#8]⟩

end Trial

open Trial

/-! ## Single steps -/

theorem test_step_takes_the_front_command :
    step { State.reset with pending := [.transmissionEnd, .minuteTick] }
      = exec .transmissionEnd { State.reset with pending := [.minuteTick] } := rfl

theorem test_idle_step_passes_1_ms :
    step State.reset = .next { State.reset with part := { State.reset.part with now := 1 } } := rfl

theorem test_status_is_answered_from_reset :
    ∃ t, exec .status (state (asked held [0x01#8, 0#8, 5#8, 0#8])) = .next t ∧ t.part.mgmt.commands = []
      ∧ t.part.chain.portB.isSome = true := ⟨_, rfl, by decide +kernel, by decide +kernel⟩

theorem test_bad_frame_sets_link_error :
    ∃ t, exec (.frameArrival [0#8]) State.reset = .next t ∧ t.part.chain.linkError = true :=
  ⟨_, rfl, by decide +kernel⟩

theorem test_release_closes_main :
    ∃ t, exec .release (state (asked (tabled held) [0x02#8, 0#8, 1#8])) = .next t
      ∧ (t.part.branch .main).commanded = true ∧ t.part.monitor.state = .checking ∧ t.part.drive.safeLine = true :=
  ⟨_, rfl, by decide +kernel, by decide +kernel, by decide +kernel⟩

/-! ## The hypotheses of the statements can be met -/

theorem test_own_event_and_none :
    (asked held [0x01#8, 0#8, 5#8, 0#8]).ownEvent = some .status ∧ held.ownEvent = none := by decide +kernel

theorem test_clock_ticks :
    (∃ m : Metering, m.clock = none)
      ∧ (∃ (m : Metering) (c : Clock), m.clock = some c ∧ m.clockPhase + 1 < 1000)
      ∧ (∃ (m : Metering) (c : Clock), m.clock = some c ∧ 1000 ≤ m.clockPhase + 1 ∧ c.second < 59)
      ∧ ∃ (m : Metering) (c : Clock), m.clock = some c ∧ 59 ≤ c.second :=
  ⟨⟨Metering.initial, by decide⟩,
    ⟨{ Metering.initial with clock := some ⟨0, 0, 58⟩, clockPhase := 998 }, ⟨0, 0, 58⟩, by decide⟩,
    ⟨{ Metering.initial with clock := some ⟨0, 0, 58⟩, clockPhase := 999 }, ⟨0, 0, 58⟩, by decide⟩,
    ⟨{ Metering.initial with clock := some ⟨0, 0, 59⟩ }, ⟨0, 0, 59⟩, by decide⟩⟩

/-- In RUN with the PART claims, with MAIN commanded CLOSED at the end of an event. -/
def Trial.running : Part := ((tabled run).setPartClaims true).finish

theorem test_main_is_closed_in_run : (running.branch .main).commanded = true := by decide +kernel

/-- A part in RUN meets the five invariants. -/
theorem test_invariants_hold_in_run :
    running.switchesDecided ∧ running.drawHeld ∧ running.grantsWithin ∧ running.meter.balanced :=
  ⟨Part.finish_switchesDecided _, Part.finish_drawHeld _, Part.finish_grantsWithin _, by
    unfold Metering.balanced
    decide +kernel⟩

theorem test_queues_within_in_run : running.queuesWithin := by
  unfold Part.queuesWithin Part.noticesFit singleDrives
  decide +kernel

/-- A step answers a next state from it. -/
theorem test_step_answers_next_in_run : ∃ t, step ⟨running, [.transmissionEnd]⟩ = .next t := ⟨_, rfl⟩

theorem test_frames_fail_the_check :
    failsCheck [] ∧ failsCheck (List.replicate 41 33#8) ∧ ¬ failsCheck (frame .sample (List.replicate 32 0#8)).bytes := by
  unfold failsCheck
  decide +kernel

theorem test_frames_are_received :
    ∀ k ∈ [FrameKind.sample, .order, .drive, .command, .answer, .notice],
      Frame.receive (frame k [1#8, 2#8, 3#8]).bytes = some (frame k [1#8, 2#8, 3#8]) := by decide +kernel

theorem test_source_is_own_or_another :
    Frame.receive ({ frame .sample [] with src := 56#8 } : Frame).bytes = some { frame .sample [] with src := 56#8 }
      ∧ 56#8 = held.chain.address ∧ (frame .sample []).src ≠ held.chain.address := by decide +kernel

theorem test_queue_intake_cases :
    let fwd (n : Nat) : Part :=
      { held with chain := { held.chain with fwd := List.replicate n (frame .sample []) } }
    let full (commands answers : Nat) : Part := { held with mgmt := { held.mgmt with
      commands := List.replicate commands (frame .command []), answers := List.replicate answers (answerOf 0) } }
    (fwd 7).chain.fwd.length < 8 ∧ 8 ≤ (fwd 8).chain.fwd.length ∧ (full 7 0).mgmt.commands.length < 8
      ∧ (8 ≤ (full 8 7).mgmt.commands.length ∧ (full 8 7).mgmt.answers.length < 8
        ∧ 3 ≤ (frame .command [1#8, 2#8, 3#8]).payload.length)
      ∧ (8 ≤ (full 8 8).mgmt.commands.length ∧ 8 ≤ (full 8 8).mgmt.answers.length)
      ∧ (frame .command [1#8, 2#8]).payload.length < 3 ∧ held.nodes.table = none := by decide +kernel

theorem test_drive_queue_cases :
    let p : Part := { chained held with drive := { held.drive with queue := [.setpoint 1] } }
    p.nodes.table ≠ none ∧ (∀ e ∈ p.drive.queue, e.sameFunction (.currentRequest 2) = false)
      ∧ singleDrives p.drive.queue ∧ p.drive.queue = [] ++ Drive.setpoint 1 :: []
      ∧ (Drive.setpoint 1).sameFunction (.setpoint 2) = true := by
  unfold singleDrives
  decide +kernel

theorem test_samples_at_their_bounds :
    readSample .pack (List.replicate 4 0#8 ++ [101#8] ++ List.replicate 8 0#8) = none
      ∧ (readSample .pack (List.replicate 4 0#8 ++ [100#8] ++ List.replicate 8 0#8)).isSome = true
      ∧ readSample .converter [0#8, 0#8, 0#8, 0#8, 3#8] = none
      ∧ (readSample .converter [0#8, 0#8, 0#8, 0#8, 2#8]).isSome = true
      ∧ readSample .injector [4#8, 0#8, 0#8, 0#8, 0#8, 0#8] = none
      ∧ (readSample .injector [3#8, 0#8, 0#8, 0#8, 0#8, 0#8]).isSome = true
      ∧ readSample .contactor [] = none ∧ (readSample .contactor [0#8]).isSome = true := by decide +kernel

/-- A CONTACTOR sample from address 7, of sequence 7 and of the sequence last used. -/
theorem test_sample_from_an_entry :
    let f : Frame := { frame .sample [1#8] with src := 7#8 }
    let g : Frame := { f with seq := 3#8 }
    let p := chained held
    Frame.receive f.bytes = some f ∧ Frame.receive g.bytes = some g ∧ f.src ≠ p.chain.address
      ∧ p.entryAt 7#8 = some ⟨.contactor, 7#8, 1000, 5, 0⟩ ∧ p.noteGateway f = p ∧ p.noteGateway g = p
      ∧ (readSample .contactor f.payload).isSome = true
      ∧ (p.nodes.runtime.get .contactor).lastSeq ≠ some f.seq
      ∧ (p.nodes.runtime.get .contactor).lastSeq = some g.seq := by decide +kernel

/-! ## Samples of INLET and INJECTOR -/

def Trial.inletSample (plug : Bool) : InletReadings := ⟨plug, .dc, true, false, 160, 3, 2300, 50000, 0#32, 0#8⟩

theorem test_plug_in_dormant :
    dormant.mgmt.partState = .dormant ∧ (inletSample true).plugPresent = true
      ∧ (inletSample false).plugPresent = false := by decide

/-- A settled estimate with the echo of a commanded mode ACTIVE. -/
def Trial.estimate (r : Nat) : InjectorReadings := ⟨.active, r, true, 950⟩

/-- A monitor in a state with its three counters one below the confirm count and one settling sample taken. -/
def Trial.judging (st : MonitorState) (taken : Nat) : Part :=
  { tabled run with monitor := { (tabled run).monitor with
    state := st, mode := .active, tripCount := 2, warnCount := 2, recoverCount := 2, settleTaken := taken } }

theorem test_injector_sample_counted :
    (judging .normal 0).monitor.table = some insulationTable ∧ (estimate 150).settled = true
      ∧ (estimate 150).echo = (judging .normal 0).monitor.mode
      ∧ (judging .unknown 0).monitor.state = .unknown ∧ ({ estimate 150 with settled := false }).settled = false := by
  decide +kernel

/-- Trip at 149 with a count of 2, not at 150; a warning at 399, none at 400; recovery at 450, none at 449; the
self-check band is 950 to 1,050; settling is complete after two samples. -/
theorem test_judgement_at_the_thresholds :
    let t := insulationTable.table
    let c := t.record .parked
    (judging .normal 0).monitor.context = .parked ∧ c.confirm = 2 + 1
      ∧ (estimate 149).resistance < c.trip ∧ ¬ (estimate 150).resistance < c.trip
      ∧ (estimate 399).resistance < c.warn ∧ ¬ (estimate 400).resistance < c.warn
      ∧ c.warn + c.warn / 8 = 450 ∧ c.settle = 2
      ∧ t.expected - t.expected * t.tolerance / 1000 = 950 ∧ t.expected + t.expected * t.tolerance / 1000 = 1050
      ∧ t.samples = 1 + 1 ∧ (judging .warning 0).locator.active = false := by decide +kernel

/-- A trip with a running session, its record OPEN and zone 1 in BURST. -/
theorem test_trip_with_session_and_burst :
    let p := { withSession (withZone (judging .normal 0) .burst true false) .charging 1 with
      store := { held.store with opened := some (record 1) } }
    p.session.state.running = true ∧ p.store.opened = some (record 1) ∧ Zone.z1 ∈ p.heat.burstOrder
      ∧ (p.zone .z1).state = .burst := by decide +kernel

/-! ## Records and segments -/

/-- A part with an OPEN record of `n + 1` segments that accrues. -/
def Trial.accruing (n : Nat) : Part :=
  { held with
    store := { held.store with opened := some { record 1 with
      segments := List.replicate n (Segment.fresh held.meter.band) ++ [Segment.fresh held.meter.band] } }
    meter := { held.meter with segment := some (SegmentContext.fresh held.meter.band) } }

theorem test_segments_before_and_at_the_eighth :
    let g := Segment.fresh held.meter.band
    (∀ n ∈ [0, 6, 7], (accruing n).meter.segment = some (SegmentContext.fresh held.meter.band)
      ∧ (accruing n).store.opened.map (fun r => r.segments) = some (List.replicate n g ++ [g]))
      ∧ held.store.opened = none := by decide +kernel

theorem test_arbiter_cases :
    let drive : Part := { chained held with drive := { held.drive with queue := [.setpoint 1] } }
    let fwd : Part := { held with chain := { held.chain with fwd := [frame .order []] } }
    let short := withAnswers held [answerOf 28]
    let long := withAnswers held [answerOf 29]
    let notice : Part := { held with mgmt := { held.mgmt with notices := [⟨1#8, none, .sessionClosed 1 1 none⟩] } }
    (Part.initial 0#2 (some (frame .sample []))).chain.portB = some (frame .sample [])
      ∧ (drive.chain.portB = none ∧ drive.drive.queue = [.setpoint 1])
      ∧ (fwd.chain.portB = none ∧ fwd.drive.queue = [] ∧ fwd.chain.fwd = [frame .order []])
      ∧ (short.drive.queue = [] ∧ short.chain.fwd = [] ∧ short.mgmt.answers = [answerOf 28]
        ∧ (answerOf 28).fields.length ≤ 28)
      ∧ (long.drive.queue = [] ∧ long.chain.fwd = [] ∧ long.mgmt.answers = [answerOf 29]
        ∧ 28 < (answerOf 29).fields.length)
      ∧ (notice.drive.queue = [] ∧ notice.chain.fwd = [] ∧ notice.mgmt.answers = []
        ∧ notice.mgmt.notices = [⟨1#8, none, .sessionClosed 1 1 none⟩])
      ∧ (held.chain.portB = none ∧ held.drive.queue = [] ∧ held.chain.fwd = [] ∧ held.mgmt.answers = []
        ∧ held.mgmt.notices = []) := by decide +kernel

theorem test_transmission_end_frees_a_place :
    let p := withAnswers held (List.replicate 8 (answerOf 28))
    8 ≤ p.mgmt.answers.length ∧ p.arbitrate.mgmt.answers.length < 8 ∧ p.arbitrate.mgmt.validation = none
      ∧ ¬ 8 ≤ held.mgmt.answers.length
      ∧ ({ p with mgmt := { p.mgmt with validation := some ⟨50, true⟩ } } : Part).arbitrate.mgmt.validation
        = some ⟨50, true⟩ := by decide +kernel

theorem test_power_orders :
    (chained held).ordersTo (orderTo 6#8 1#8) .converter = true
      ∧ (chained held).ordersTo (orderTo 2#8 2#8) .converter = false
      ∧ (chained held).ordersTo (orderTo 2#8 2#8) .inlet = true
      ∧ (chained held).ordersTo (orderTo 3#8 2#8) .converter = false
      ∧ (chained held).ordersTo (orderTo 3#8 2#8) .inlet = false := by decide +kernel

theorem test_target_limit_cases :
    let pack : PackReadings := ⟨0, 50, PerZone.fill ⟨10, 12⟩⟩
    let p : Part := { chained held with nodes := { liveNodes with pack := some pack } }
    (held.nodes.runtime.get .pack).state ≠ .live ∧ (p.nodes.runtime.get .pack).state = .live
      ∧ p.nodes.pack = some pack ∧ pack.voltage = 0 ∧ ({ pack with voltage := 1 } : PackReadings).voltage ≠ 0 := by
  decide +kernel

theorem test_notice_cases :
    let bit := 1#16 <<< (NoticeBody.sessionClosed 1 1 none).number
    let masked : Part := { held with mgmt := { held.mgmt with mask := 0#16 } }
    let full : Part := { held with mgmt := { held.mgmt with
      noticeSize := 32, notices := [⟨1#8, none, .sessionClosed 1 1 none⟩] } }
    masked.mgmt.mask &&& bit = 0#16
      ∧ (held.mgmt.mask &&& bit ≠ 0#16 ∧ held.mgmt.notices.length < held.mgmt.noticeSize / 32)
      ∧ (full.mgmt.mask &&& bit ≠ 0#16 ∧ full.mgmt.noticeSize / 32 ≤ full.mgmt.notices.length) := by decide +kernel

theorem test_grant_cases :
    let charge : Part := { held with budget := { held.budget with table := some (budgetTable .chargeFirst) } }
    let frozen : Part := { held with budget := { held.budget with freeze := true } }
    (⟨.z1, 2000, false⟩ : HeatAsk).power ≤ 2000 ∧ 1999 < (⟨.z1, 2000, false⟩ : HeatAsk).power
      ∧ frozen.budget.freeze = true
      ∧ ((tabled held).budget.freeze = false ∧ (tabled held).budget.table = some (budgetTable .heatFirst)
        ∧ (budgetTable .heatFirst).table.orderMode = .heatFirst)
      ∧ (charge.budget.freeze = false ∧ charge.budget.table = some (budgetTable .chargeFirst)
        ∧ (budgetTable .chargeFirst).table.orderMode = .chargeFirst) := by decide +kernel

/-- Every role's entry can be silent for exactly its allowed silence. -/
theorem test_every_role_can_go_stale :
    let p : Part := { chained held with now := 5000 }
    ∀ role ∈ allRoles, ∃ e ∈ nodeEntries, p.entryOf role = some e ∧ (p.nodes.runtime.get role).state = .live
      ∧ (p.nodes.runtime.get role).timer = some 0 ∧ e.period * e.staleLimit ≤ p.now - 0 := by decide +kernel

theorem test_deadlines_reached :
    let p : Part := { held with
      now := 300
      drive := { held.drive with branches :=
        { held.drive.branches with main := { held.drive.branches.main with change := some ⟨true, 300⟩ } } }
      heat := { held.heat with zones :=
        { held.heat.zones with z1 := { held.heat.zones.z1 with change := some ⟨true, 300⟩ } } }
      monitor := { held.monitor with change := some ⟨.active, 300⟩ } }
    (p.branch .main).change = some ⟨true, 300⟩ ∧ (p.zone .z1).change = some ⟨true, 300⟩
      ∧ p.monitor.change = some ⟨.active, 300⟩ ∧ (300 : Nat) ≤ p.now := by decide +kernel

theorem test_mode_deadline_states :
    (∀ st : MonitorState, (withMonitor (tabled held) st).monitor.state = st)
      ∧ (withMonitor (tabled held) .checking).monitor.table = some insulationTable := by
  refine ⟨fun st => rfl, ?_⟩
  decide +kernel

theorem test_session_timers_reached :
    let p : Part := { tabled held with
      now := 60000
      session := { (tabled held).session with
        inletGrace := some 50000, unknownGrace := some 30000, durationStart := some 0, durationLimit := some 1 } }
    p.session.table = some limitTable ∧ 1000 * limitTable.table.inletGrace ≤ p.now - 50000
      ∧ p.monitor.table = some insulationTable ∧ 1000 * insulationTable.table.grace ≤ p.now - 30000
      ∧ p.session.durationLimit = some 1 ∧ 60000 * 1 ≤ p.now - 0 := by decide +kernel

theorem test_session_running_or_not :
    (withSession held .ending 1).session.state.running = false
      ∧ (withSession held .charging 1).session.state.running = true
      ∧ (withSession held .charging 0).session.tailCount = 0 := by decide

/-- A burst that may go on, at one extension below the maximum, and one whose demand is gone. -/
theorem test_burst_extended_or_ended :
    let p := withZone held .burst true false
    let q := withZone held .burst false false
    (p.zone .z1).state = .burst ∧ (p.zone .z1).endTime = some 0 ∧ (0 : Nat) ≤ p.now ∧ p.heat.table = some heatTable
      ∧ (p.zone .z1).demand = true ∧ .z1 ∈ p.budget.granted
      ∧ (p.zone .z1).extensions + 1 = (heatTable.table.zones.get .z1).maxExtensions ∧ heatTable.table.mode = .all
      ∧ (q.zone .z1).state = .burst ∧ (q.zone .z1).endTime = some 0 ∧ q.heat.table = some heatTable
      ∧ (q.zone .z1).demand = false := by decide +kernel

theorem test_burst_ending_cases :
    (held.zone .z1).state ≠ .burst ∧ ((withZone held .burst true true).zone .z1).state = .burst
      ∧ ((withZone held .burst true true).branch Zone.z1.branch).quarantine = true
      ∧ ((withZone held .burst true false).branch Zone.z1.branch).quarantine = false
      ∧ (withZone held .burst true false).heat.table = some heatTable := by decide +kernel

theorem test_rest_reached :
    ((withZone held .rest true false).zone .z1).state = .rest
      ∧ ((withZone held .rest true false).zone .z1).endTime = some 0
      ∧ ((withZone held .rest true false).zone .z1).demand = true
      ∧ ((withZone held .rest false false).zone .z1).demand = false := by decide +kernel

theorem test_minute_tick_due :
    let m : Metering := { held.meter with clock := some ⟨65535, 10079, 59⟩, clockPhase := 1000 }
    m.clock = some ⟨65535, 10079, 59⟩ ∧ 59 ≤ (⟨65535, 10079, 59⟩ : Clock).second ∧ 1000 ≤ m.clockPhase := by decide

/-- In DORMANT, an entry that is reached at the tick, and one at the largest lead that wakes the part. -/
theorem test_departures_at_the_tick :
    let d (minutes : Nat) : Departure := ⟨600, none, true, minutes, false⟩
    let p (minutes : Nat) : Part := { dormant with heat := { dormant.heat with
      table := some heatTable, departures := [d minutes] } }
    (p 61).mgmt.partState = .dormant ∧ (p 61).heat.table = some heatTable
      ∧ 61 - 1 = heatTable.table.largestLead ∧ 0 < heatTable.table.largestLead
      ∧ ((p 1).heat.departures.map fun e => e.minutesToGo - 1) = [0] ∧ held.heat.table = none := by decide +kernel

/-! ## Table images -/

def Trial.nodeImage : List Byte :=
  ((List.range 8).map fun k =>
    [BitVec.ofNat 8 k, BitVec.ofNat 8 (k + 1), 0x03#8, 0xE8#8, 5#8, 0#8, 0#8, 0#8, 1#8]).flatten

def Trial.limitImage : List Byte := [60#8, 50#8, 1#8, 70#8, 0x02#8, 0x49#8, 0xF0#8]

def Trial.budgetImage : List Byte :=
  [0#8, 0#8, 0x03#8, 0x20#8, 1#8, 0#8, 0#8, 0#8, 0#8, 10#8, 0#8, 0#8, 0#8, 100#8]

def Trial.tariffImage : List Byte := 1#8 :: List.replicate 15 0#8

def Trial.heatImage : List Byte :=
  [0#8, 0#8, 5#8, 0#8, 30#8, 0#8, 0#8, 1#8, 0#8, 70#8, 0#8, 240#8]
    ++ ((List.range 4).map fun _ =>
      [0x01#8, 0xF4#8, 0#8, 1#8, 30#8, 0#8, 0#8, 5#8, 7#8] ++ List.replicate 7 0#8).flatten

def Trial.insulationImage : List Byte :=
  [2#8, 1#8, 1#8, 1#8, 0#8, 100#8, 0#8, 10#8, 2#8]
    ++ ((List.range 4).map fun _ => [0#8, 50#8, 0#8, 20#8, 1#8, 0#8]).flatten ++ [1#8, 3#8]

theorem test_images_at_their_bounds_are_valid :
    (judgeNode 56#8 nodeImage).toOption.isSome = true ∧ (judgeLimit limitImage).toOption.isSome = true
      ∧ (judgeBudget budgetImage).toOption.isSome = true ∧ (judgeTariff tariffImage).toOption.isSome = true
      ∧ (judgeHeat heatImage).toOption.isSome = true
      ∧ (judgeInsulation insulationImage).toOption.isSome = true := by decide +kernel

def Trial.faultIndex {α : Type} : Judged α → Option Nat
  | .error k => some k
  | .ok _ => none

/-- The part's own address in the last NODE entry, an inlet grace of 61, a shed list that names MAIN. -/
theorem test_images_with_a_fault :
    faultIndex (judgeNode 8#8 nodeImage) = some 7 ∧ faultIndex (judgeLimit (61#8 :: limitImage.drop 1)) = some 0
      ∧ faultIndex (judgeBudget (budgetImage.take 13)) = some 7 ∧ faultIndex (judgeTariff []) = some 0
      ∧ faultIndex (judgeHeat []) = some 0
      ∧ faultIndex (judgeInsulation (insulationImage.take 34 ++ [0#8])) = some 5 := by decide +kernel

theorem test_commit_completion_cases :
    let p (answers : Nat) : Part := { held with mgmt := { held.mgmt with
      commands := [frame .command [0x09#8, 0#8, 1#8, 0#8, 0#8]]
      answers := List.replicate answers (answerOf 0)
      validation := some ⟨50, false⟩
      staging := some ⟨.node, 72, List.replicate 256 0#8⟩ } }
    ∀ n ∈ [7, 8], (p n).mgmt.validation = some ⟨50, false⟩
      ∧ (p n).mgmt.staging = some ⟨.node, 72, List.replicate 256 0#8⟩
      ∧ (p n).mgmt.commands = [frame .command [0x09#8, 0#8, 1#8, 0#8, 0#8]]
      ∧ (n = 7 → (p n).mgmt.answers.length < 8) ∧ (n = 8 → 8 ≤ (p n).mgmt.answers.length) := by decide +kernel

theorem test_nothing_is_due_at_reset :
    (∀ r ∈ allRoles, held.staleDue r = false) ∧ (∀ b ∈ allBranches, (held.branch b).change = none)
      ∧ (∀ z ∈ allZones, (held.zone z).change = none ∧ (held.zone z).state ≠ .burst ∧ (held.zone z).state ≠ .rest)
      ∧ held.monitor.change = none ∧ held.inletGraceDue = false ∧ held.unknownGraceDue = false
      ∧ held.durationDue = false ∧ held.meter.clock = none ∧ held.mgmt.partState ≠ .dormant
      ∧ held.mgmt.validation = none := by decide +kernel

/-- A pending change whose deadline lies 1 ms ahead. -/
theorem test_deadline_1_ms_ahead :
    let p : Part := { held with now := 300, monitor := { held.monitor with change := some ⟨.active, 301⟩ } }
    ∀ w, p.monitor.change = some w → p.now < w.deadline := by
  intro p w h
  cases h
  decide

/-! ## Commands at the head -/

/-- A payload of each command, its code and tag with fields of the right length. -/
def Trial.payload : CommandName → List Byte
  | .unknown => [0xFE#8, 0#8, 1#8]
  | .status => [0x01#8, 0#8, 1#8, 0#8]
  | .release => [0x02#8, 0#8, 1#8]
  | .sleep => [0x03#8, 0#8, 1#8, 15#8]
  | .wake => [0x04#8, 0#8, 1#8]
  | .configureMemory => 0x05#8 :: List.replicate 8 0#8
  | .setNoticeMask => 0x06#8 :: List.replicate 4 0#8
  | .loadBegin => 0x07#8 :: List.replicate 5 1#8
  | .loadData => 0x08#8 :: List.replicate 27 0#8
  | .loadCommit => 0x09#8 :: List.replicate 4 0#8
  | .loadCancel => [0x0A#8, 0#8, 1#8]
  | .readTable => 0x0B#8 :: List.replicate 4 1#8
  | .resetLink => [0x0C#8, 0#8, 1#8, 0#8]
  | .resetHeat => [0x0C#8, 0#8, 1#8, 1#8]
  | .resetPart => [0x0C#8, 0#8, 1#8, 2#8]
  | .readBranches => [0x10#8, 0#8, 1#8]
  | .setClock => 0x11#8 :: List.replicate 7 0#8
  | .readBudget => [0x12#8, 0#8, 1#8]
  | .openSession => 0x20#8 :: List.replicate 24 0#8
  | .pauseSession => [0x21#8, 0#8, 1#8]
  | .resumeSession => [0x22#8, 0#8, 1#8]
  | .abortSession => [0x23#8, 0#8, 1#8]
  | .splitSession => 0x24#8 :: List.replicate 14 0#8
  | .sessionStatus => [0x25#8, 0#8, 1#8]
  | .heatNow => 0x30#8 :: List.replicate 6 1#8
  | .heatStop => [0x31#8, 0#8, 1#8]
  | .setDeparture => 0x32#8 :: List.replicate 6 1#8
  | .cancelDeparture => 0x33#8 :: List.replicate 4 1#8
  | .readHeat => [0x34#8, 0#8, 1#8, 2#8]
  | .clearTrip => [0x40#8, 0#8, 1#8]
  | .selfCheck => [0x41#8, 0#8, 1#8]
  | .readInsulation => [0x42#8, 0#8, 1#8]
  | .locateNow => [0x48#8, 0#8, 1#8]
  | .restoreBranch => [0x49#8, 0#8, 1#8, 3#8]
  | .readFaults => [0x4A#8, 0#8, 1#8, 255#8]
  | .readRecord => 0x50#8 :: List.replicate 6 0#8
  | .releaseRecords => 0x51#8 :: List.replicate 4 0#8

/-- In RUN every command passes the gates before its own rule. -/
theorem test_every_command_is_admitted_in_run (p : Part) (name : CommandName) (run : p.mgmt.partState = .run)
    (unheld : p.mgmt.validation = none) (place : p.mgmt.answers.length < 8) :
    (asked p (payload name)).Admits name (frame .command (payload name)) [] where
  queued := rfl
  unheld := unheld
  place := place
  named := by cases name <;> decide +kernel
  fits := by cases name <;> decide +kernel
  awake := fun dormant => by
    have same : (asked p (payload name)).mgmt.partState = p.mgmt.partState := rfl
    rw [same, run] at dormant
    cases dormant
  released := fun held => by
    have same : (asked p (payload name)).mgmt.partState = p.mgmt.partState := rfl
    rw [same, run] at held
    cases held

theorem test_run_admits_every_command (name : CommandName) :
    (asked run (payload name)).Admits name (frame .command (payload name)) [] :=
  test_every_command_is_admitted_in_run run name rfl rfl (by decide)

/-- In HELD the commands that are taken there pass. -/
theorem test_commands_are_admitted_in_held (p : Part) (name : CommandName) (taken : name.takenInHeld = true)
    (isHeld : p.mgmt.partState = .held) (unheld : p.mgmt.validation = none) (place : p.mgmt.answers.length < 8) :
    (asked p (payload name)).Admits name (frame .command (payload name)) [] where
  queued := rfl
  unheld := unheld
  place := place
  named := by cases name <;> decide +kernel
  fits := by cases name <;> decide +kernel
  awake := fun dormant => by
    have same : (asked p (payload name)).mgmt.partState = p.mgmt.partState := rfl
    rw [same, isHeld] at dormant
    cases dormant
  released := fun _ => taken

theorem test_dormant_admits_wake :
    (asked dormant (payload .wake)).Admits .wake (frame .command (payload .wake)) [] :=
  ⟨rfl, rfl, by decide, by decide +kernel, by decide, fun _ => rfl, fun h => by cases h⟩

theorem test_gates_leave_the_queue_alone :
    held.mgmt.commands = [] ∧ (asked held (payload .status)).mgmt.commands = [frame .command (payload .status)]
      ∧ nameOf (payload .status) ≠ .wake
      ∧ ({ held.mgmt with validation := some ⟨50, false⟩ } : Management).validation ≠ none
      ∧ 8 ≤ (withAnswers held (List.replicate 8 (answerOf 0))).mgmt.answers.length := by decide +kernel

/-- RELEASE: in RUN, in HELD with tables absent, and in HELD with every table in force. -/
theorem test_release_cases :
    let absent (p : Part) := [TableId.node, .limit, .budget, .tariff, .heat, .insulation].filter
      fun t => (p.imageOf t).isNone
    let p := asked held (payload .release)
    let q := asked (tabled held) (payload .release)
    run.mgmt.partState = .run
      ∧ (p.Admits .release (frame .command (payload .release)) [] ∧ p.mgmt.partState ≠ .run
        ∧ absent p = [.node, .limit, .budget, .tariff, .heat, .insulation])
      ∧ (q.Admits .release (frame .command (payload .release)) [] ∧ q.mgmt.partState ≠ .run ∧ absent q = []
        ∧ q.monitor.tripLatch = false ∧ (q.branch .main).shed = false ∧ (q.branch .main).quarantine = false) :=
  ⟨rfl, ⟨test_commands_are_admitted_in_held held .release rfl rfl rfl (by decide), by decide, by decide +kernel⟩,
    ⟨test_commands_are_admitted_in_held (tabled held) .release rfl rfl rfl (by decide +kernel), by decide +kernel,
      by decide +kernel, by decide +kernel, by decide +kernel, by decide +kernel⟩⟩

theorem test_wake_interval_runs_out :
    dormant.mgmt.partState = .dormant ∧ dormant.mgmt.wakeAt = some 0 ∧ (0 : Nat) ≤ dormant.now := by decide

theorem test_record_to_release :
    let payload := [0x51#8, 0#8, 1#8, 0#8, 2#8]
    let p : Part := asked { run with store := { run.store with closed := [record 1, record 2] } } payload
    p.Admits .releaseRecords (frame .command payload) []
      ∧ p.store.closed = [record 1] ++ record 2 :: [] ∧ (record 2).number = u16 payload 3
      ∧ (∀ x ∈ [record 1], x.number ≠ u16 payload 3) ∧ ¬ (∃ r ∈ run.store.closed, r.number = u16 payload 3) :=
  ⟨⟨rfl, rfl, by decide, by decide +kernel, by decide +kernel, fun h => (by cases h), fun h => (by cases h)⟩,
    by decide +kernel, by decide +kernel, by decide +kernel, by decide +kernel⟩

theorem test_open_record_to_split :
    let p : Part := asked (withSession { run with store := { run.store with opened := some (record 5) } } .charging 0)
      (payload .splitSession)
    p.Admits .splitSession (frame .command (payload .splitSession)) [] ∧ p.store.opened = some (record 5) :=
  ⟨test_every_command_is_admitted_in_run _ .splitSession rfl rfl (by decide), rfl⟩

/-- CLEAR_TRIP: outside TRIPPED, without a reading, below the recover limit and at it. -/
theorem test_clear_trip_cases :
    let at_ (reading : Option Nat) : Part := asked { tabled run with
      monitor := { (tabled run).monitor with state := .tripped, latest := reading } } (payload .clearTrip)
    run.monitor.state ≠ .tripped
      ∧ (∀ reading, (at_ reading).Admits .clearTrip (frame .command (payload .clearTrip)) []
        ∧ (at_ reading).monitor.state = .tripped ∧ (at_ reading).monitor.latest = reading)
      ∧ 0 < (at_ none).recoverLimit :=
  ⟨by decide, fun reading => ⟨test_every_command_is_admitted_in_run _ .clearTrip rfl rfl
    (show ([] : List Answer).length < 8 by decide), rfl, rfl⟩, by decide +kernel⟩

/-! ## Suspension and the Locator -/

/-- A session SUSPENDED from a state by a set of causes. -/
def Trial.suspended (resume : SessionState) (causes : SuspensionCauses) : Part :=
  { run with session := { run.session with state := .suspended, resume := some resume, causes := causes } }

/-- A last cause to remove, one of two, none; and the inlet branch closed under a session that resumes to
CONNECTING. -/
theorem test_suspension_cases :
    let one : SuspensionCauses := ⟨true, false, false, false⟩
    let two : SuspensionCauses := ⟨true, true, false, false⟩
    let closed : BranchEntry := ⟨false, true, false, false, true, some true, none, false⟩
    let p : Part := { suspended .connecting one with
      session := { (suspended .connecting one).session with kindActual := some .dc }
      drive := { run.drive with branches := { run.drive.branches with dcInlet := closed } } }
    (∀ d ∈ [Suspension.pause, .locate, .inletStale, .insulationUnknown], (one.put .pause false).has d = false)
      ∧ one.has .pause = true ∧ one.has .locate = false ∧ (two.put .pause false).has .locate = true
      ∧ p.session.state = .suspended ∧ p.session.resume = some .connecting ∧ p.session.kindActual = some .dc
      ∧ p.shouldClose ChargeKind.dc.branch = true ∧ (p.branch ChargeKind.dc.branch).commanded = true
      ∧ (p.branch ChargeKind.dc.branch).change = none ∧ (p.branch ChargeKind.dc.branch).feedback = some true := by
  decide +kernel

/-- A procedure that tests the branches of a shed list, in a phase. -/
def Trial.locating (shed : List Branch) (phase : Phase) (count : Nat) : Part :=
  { running with
    monitor := { running.monitor with
      table := some { insulationTable with table := { insulationTable.table with shedList := shed } } }
    locator := { running.locator with active := true, phase := phase, sampleCount := count } }

/-- CARGO is under test, no session owns it, and its claim closes it; DC_INLET is the session's own. -/
theorem test_locate_step_cases :
    let p := locating [.cargo, .zone1] .shedding 1
    let q := { locating [.dcInlet] .shedding 1 with
      session := { running.session with state := .suspended, kindActual := some .dc } }
    (∀ phase ∈ [Phase.shedding, .settling, .confirming, .restoring],
      (locating [.cargo] phase 1).locator.phase = phase)
      ∧ p.locator.active = true ∧ p.shedList[p.locator.cursor]? = some .cargo
      ∧ p.shedList[p.locator.cursor]? ≠ some .zone1 ∧ p.ownsInlet .cargo = false
      ∧ (p.branch .cargo).claimPart = true ∧ (p.branch .cargo).shed = false ∧ (p.branch .cargo).quarantine = false
      ∧ p.mgmt.partState = .run ∧ p.monitor.state ≠ .tripped ∧ (p.branch .dcInlet).claimPart = false
      ∧ (p.branch .dcInlet).claimSession = false
      ∧ q.shedList[q.locator.cursor]? = some .dcInlet ∧ q.session.kindActual = some .dc
      ∧ ChargeKind.dc.branch = .dcInlet ∧ q.ownsInlet .dcInlet = true
      ∧ insulationTable.table.locateSettle = 1 + 1 ∧ insulationTable.table.locateConfirm = 1 + 1
      ∧ held.locator.active = false := by decide +kernel

/-- R30, R147: when CARGO's change to OPEN and DC_INLET's older change to CLOSED fail together, CARGO is NOT_ISOLATED
and the step of DC_INLET still waits for its own change to OPEN. -/
theorem test_an_older_change_is_left_alone :
    let entry (commanded : Bool) : BranchEntry :=
      ⟨false, true, !commanded, false, commanded, some (!commanded), some ⟨commanded, 300⟩, false⟩
    let p := locating [.cargo, .dcInlet] .shedding 0
    let q := Part.failNode .contactor allBranches { p with drive := { p.drive with branches :=
      { p.drive.branches with cargo := entry false, dcInlet := entry true } } }
    q.locator.cursor = 1 ∧ q.locator.phase = .shedding ∧ (q.branch .dcInlet).shed = true
      ∧ (q.branch .cargo).shed = false ∧ (q.branch .dcInlet).faulty = true
      ∧ q.locator.results.take 2 = [.notIsolated, .notReached] := by decide +kernel

/-- A fault list of 11 entries, and one of 12 whose second entry is the oldest that is not live. -/
theorem test_fault_list_cases :
    let e (live : Bool) : FaultEntry := ⟨some .cargo, .quarantined, 100, 900, none, 1, live⟩
    (List.replicate 11 (e true)).length < 12 ∧ (∀ x ∈ [e true], x.live = true) ∧ (e false).live = false
      ∧ 12 ≤ ([e true] ++ e false :: List.replicate 10 (e true)).length := by decide +kernel

theorem test_zone_branch_restored : Branch.zone1.zone = some .z1 := by decide

theorem test_session_open_at_part_reset :
    let p : Part := asked (withSession { run with store := { run.store with closed := [record 1] } } .charging 0)
      (payload .resetPart)
    p.Admits .resetPart (frame .command (payload .resetPart)) [] ∧ p.session.state ≠ .closed
      ∧ record 1 ∈ p.store.closed :=
  ⟨test_every_command_is_admitted_in_run _ .resetPart rfl rfl (by decide), by decide, by decide +kernel⟩

/-! ## The end of an event, terminations and resets -/

/-- A session in PLUG_WAIT that expects a kind, with INLET readings, under a monitor in a state. -/
def Trial.waiting (k : Kind) (r : Option InletReadings) (st : MonitorState) : Part :=
  { judging st 0 with
    session := { (tabled run).session with state := .plugWait, kindExpected := some k }
    nodes := { liveNodes with inlet := r } }

theorem test_plug_wait_cases :
    let p (k : Kind) := waiting k (some (inletSample true)) .normal
    (∀ k ∈ [Kind.ac, .dc, .any], (p k).session.state = .plugWait ∧ (p k).session.kindExpected = some k
      ∧ (p k).liveInlet = some (inletSample true) ∧ (p k).session.causes = ⟨false, false, false, false⟩
      ∧ (p k).locator.active = false ∧ ((p k).branch .dcInlet).quarantine = false)
      ∧ (p .dc).plugWait.session.state ≠ .plugWait ∧ (p .any).plugWait.session.state ≠ .plugWait
      ∧ (p .ac).plugWait = (p .ac).terminate .wrongInlet
      ∧ (waiting .dc none .normal).liveInlet = none
      ∧ (waiting .dc (some (inletSample true)) .settling).plugWait.session.state = .plugWait
      ∧ (waiting .dc (some (inletSample false)) .normal).plugWait.session.state = .plugWait := by decide +kernel

/-- Every branch of the session's kind quarantined. -/
theorem test_plug_wait_with_its_branch_quarantined :
    let p := waiting .dc none .normal
    let q : Part := { p with drive := { p.drive with branches :=
      { p.drive.branches with dcInlet := { p.drive.branches.dcInlet with quarantine := true } } } }
    q.session.state = .plugWait ∧ q.session.kindExpected = some .dc ∧ q.liveInlet = none
      ∧ (q.branch .dcInlet).quarantine = true := by decide +kernel

/-- Zone 1 in a state with demand as given, a target of 20 °C and readings of zone 1, the HEATER live in RUN. -/
def Trial.demanding (st : ZoneState) (demand : Bool) (temps : ZoneTemps) : Part :=
  { withZone (judging .normal 0) st demand false with
    heat := { (withZone (judging .normal 0) st demand false).heat with
      zones := PerZone.fill { (withZone (judging .normal 0) st demand false).heat.zones.z1 with
        effectiveTarget := some 20 } }
    nodes := { liveNodes with pack := some ⟨400, 50, PerZone.fill temps⟩ } }

/-- A hysteresis of 3 °C below a target of 20, and a ceiling of 40: 16 sets the demand, 17 and 19 keep it, 20 and the
ceiling clear it. -/
theorem test_demand_at_its_thresholds :
    let after (demand : Bool) (temps : ZoneTemps) := ((demanding .off demand temps).evalDemand.zone .z1).demand
    after false ⟨16, 39⟩ = true ∧ after true ⟨16, 40⟩ = false ∧ after false ⟨17, 39⟩ = false
      ∧ after true ⟨17, 39⟩ = true ∧ after true ⟨19, 39⟩ = true ∧ after true ⟨20, 39⟩ = false := by decide +kernel

theorem test_demand_may_be_evaluated :
    let p := demanding .waiting true ⟨16, 30⟩
    p.mgmt.partState = .run ∧ (p.nodes.runtime.get .heater).state = .live ∧ p.locator.active = false
      ∧ p.monitor.state = .normal ∧ (p.zone .z1).state ≠ .quarantined ∧ p.livePack = p.nodes.pack
      ∧ p.nodes.pack.isSome = true ∧ (p.zone .z1).effectiveTarget = some 20 ∧ p.heat.table = some heatTable
      ∧ ((demanding .off false ⟨16, 30⟩).evalDemand.zone .z1).state = .waiting
      ∧ ((demanding .waiting true ⟨20, 30⟩).evalDemand.zone .z1).state = .off := by decide +kernel

/-- A recompute is caused by a recompute due, and by nothing in a part just settled; demand is due while a target
differs from what the sources give, and not after. -/
theorem test_recompute_and_demand_due_or_not :
    let p := running
    let due : Part := { p with budget := { p.budget with recomputeDue := true } }
    due.budget.recomputeDue = true ∧ p.setFigures.checkOverdrawn.recomputeCaused p.budget = false
      ∧ p.heat.demandDue = false ∧ (∀ z ∈ allZones, (p.zone z).effectiveTarget = p.targetNow z)
      ∧ (demanding .off false ⟨16, 30⟩).targetNow .z1 ≠ ((demanding .off false ⟨16, 30⟩).zone .z1).effectiveTarget := by
  decide +kernel

/-- Zone 1 WAITING, granted and not granted: it enters BURST, or stays; its entry changes the heat request. -/
theorem test_zone_enters_burst_or_not :
    let p (granted : List Zone) : Part :=
      { demanding .waiting true ⟨16, 30⟩ with
        heat := { (demanding .waiting true ⟨16, 30⟩).heat with waitList := [.z1] }
        budget := { (tabled run).budget with granted := granted, heatRequest := [⟨.z1, 2000, false⟩] } }
    (p [.z1]).heat.table = some heatTable ∧ heatTable.table.mode = .all
      ∧ ((p [.z1]).enterBursts.zone .z1).state = .burst
      ∧ (p [.z1]).enterBursts.heatAsk ≠ (p [.z1]).enterBursts.budget.heatRequest
      ∧ ((p []).enterBursts.zone .z1).state = .waiting ∧ (p []).enterBursts.heatAsk = (p []).enterBursts.budget.heatRequest
      ∧ held.heat.table = none := by decide +kernel

/-- A session in CHARGING whose tail may begin, and two in ENDING: a tail short of its count, and one that reached it. -/
theorem test_tail_cases :
    let p : Part := { withSession (judging .normal 0) .charging 1 with
      nodes := { liveNodes with inlet := some (inletSample true) } }
    let e (taken : Nat) : Part := { withSession held .ending 2 with
      session := { (withSession held .ending 2).session with tailTaken := taken } }
    p.session.state.running = true ∧ p.session.tailCount = 1 ∧ p.monitor.state ≠ .tripped
      ∧ p.liveInlet = some (inletSample true) ∧ (p.terminate .abort).session.state = .ending
      ∧ (withSession held .charging 1).liveInlet = none
      ∧ ((withSession held .charging 1).terminate .abort).session.state = .closed
      ∧ (e 1).session.state = .ending ∧ (e 1).session.tailTaken < (e 1).session.tailCount
      ∧ (e 2).session.tailCount ≤ (e 2).session.tailTaken := by decide +kernel

/-- PART reset with a NODE table, a procedure that runs and zone 1 in BURST. -/
theorem test_part_reset_of_a_busy_part :
    let p := { withZone (tabled run) .burst true false with locator := { held.locator with active := true } }
    p.nodes.table ≠ none ∧ p.locator.active = true ∧ Zone.z1 ∈ p.heat.burstOrder ∧ (p.zone .z1).state = .burst
      ∧ p.resetPart.heat.burstOrder = [] := by decide +kernel

/-- An entry that the forward distance of 40 minutes reaches, and one beyond it. -/
theorem test_departure_passed_or_not :
    let d (minutes : Nat) : Departure := ⟨600, none, false, minutes, true⟩
    let p : Part := { tabled run with heat := { (tabled run).heat with departures := [d 40, d 41] } }
    (p.moveDepartures ⟨0, 560, 0⟩ ⟨0, 600, 0⟩).heat.departures.map (fun e => (e.minutesToGo, e.active))
      = [(10080, false)] := by decide +kernel

/-! ## Bands, branch rule, clamp drives, staleness and the failed restore -/

/-- The example of R48: starts at 60, 420, 1,320 and 5,040. -/
theorem test_band_lookup :
    let bands := [60, 420, 1320, 5040].map fun s => (⟨s, 0#8, PerAccount.fill 1⟩ : TariffBand)
    let at_ (minute : Nat) := (activeBand (some ⟨[], ⟨PerAccount.fill 9, bands⟩⟩) (some ⟨0, minute, 0⟩)).index
    (bands.Pairwise fun a b => a.start < b.start) ∧ at_ 700 = 1#8 ∧ at_ 5040 = 3#8 ∧ at_ 30 = 3#8 ∧ at_ 80 = 0#8 := by
  decide +kernel

/-- Entering RUN changes MAIN, CARGO and the zones, with one drive to each node; a settled part changes none. -/
theorem test_branch_rule_cases :
    let p := ((tabled run).setPartClaims true).decideBranches
    p.drive.queue = [.switchSet true false false true, .isolationSet ⟨true, true, true, true⟩]
      ∧ (p.branch .main).change = some ⟨true, 300⟩ ∧ p.drive.safeLine = true
      ∧ (∀ b ∈ allBranches, running.shouldClose b = (running.branch b).commanded) := by decide +kernel

/-- A last forwarded value above its limit of 0, one at it, and none. -/
theorem test_clamp_drive_cases :
    let p (last : Option Nat) : Part := { tabled run with clamp := ⟨last, none⟩ }
    (p (some 1)).settleDraw.drive.queue = [.setpoint 0] ∧ (p (some 0)).settleDraw.drive.queue = []
      ∧ (p none).settleDraw.drive.queue = [] := by decide +kernel

theorem test_staleness_reactions :
    let p := withSession (judging .normal 0) .charging 0
    p.inletLost.session.inletGrace = some 0 ∧ p.inletLost.session.state = .suspended
      ∧ held.session.state = .closed ∧ p.injectorLost.monitor.state = .unknown
      ∧ p.injectorLost.session.unknownGrace = some 0 ∧ held.monitor.state = .off
      ∧ (judging .unknown 0).enterSettling.monitor.state = .settling
      ∧ (judging .settling 1).monitor.settleTaken = 1 := by decide +kernel

/-- R149: the restore of the session's own branch fails. The session terminates and the next step begins; with no
entry left the verdict is BUS. -/
theorem test_failed_restore_of_the_own_branch :
    let p (shed : List Branch) : Part := { locating shed .restoring 0 with
      session := { running.session with state := .suspended, kindActual := some .dc } }
    let q := (p [.dcInlet, .cargo]).locateFailed .dcInlet true
    q.session.state = .closed ∧ q.locator.cursor = 1 ∧ q.locator.phase = .shedding ∧ (q.branch .cargo).shed = true
      ∧ ((p [.dcInlet]).locateFailed .dcInlet true).locator.active = false := by decide +kernel

/-- A payload with every field absent, one with a target of 0, and a code that names no kind. -/
theorem test_open_session_ranges :
    let at_ (kind presence : Byte) := openFieldsOf ([0x20#8, 0#8, 1#8, kind, presence] ++ List.replicate 20 0#8)
    (at_ 2#8 0#8).inRange = true ∧ (at_ 2#8 1#8).inRange = false ∧ Kind.ofCode (at_ 3#8 0#8).kindCode = none
      ∧ held.store.free = 12288 := by decide +kernel

theorem test_lead_is_absent_with_no_heat_table :
    State.reset.part.sourceFields.drop 22 = [0xFF#8, 0xFF#8] := by decide +kernel

theorem test_energy_at_or_above_its_mark : energySince 700#48 200#48 = 500 := by decide

theorem test_energy_below_its_mark :
    energySince 100#48 200#48 = Config.unstatedEnergySince 100#48 200#48 := rfl

end Sys2Proof.Machine
end

section
/-! PROOFS. The queues of the part (O9): what each operation leaves of them, and the invariant that every step keeps
them within their capacities. -/

namespace Sys2Proof.Machine

/-! ## The queues, read from the part -/

/-- What the capacities of R6, R177, R179, R180 and R24 speak of. -/
structure Queues where
  fwd : List Frame
  commands : List Frame
  answers : List Answer
  noticesFit : Prop
  singleDrives : Prop

/-- What the capacities speak of, read from the part. -/
def Part.queues (p : Part) : Queues :=
  ⟨p.chain.fwd, p.mgmt.commands, p.mgmt.answers, p.noticesFit, singleDrives p.drive.queue⟩

/-- Every queue lies within its capacity. -/
def Queues.within (q : Queues) : Prop :=
  q.fwd.length ≤ 8 ∧ q.commands.length ≤ 8 ∧ q.answers.length ≤ 8 ∧ q.noticesFit ∧ q.singleDrives

/-- Every queue lies within its capacity, and the answer queue has a place. -/
def Queues.roomy (q : Queues) : Prop := q.within ∧ q.answers.length < 8

theorem Part.queuesWithin_iff (p : Part) : p.queuesWithin ↔ p.queues.within := Iff.rfl

/-- An operation of a block that keeps `outer` keeps the queues. -/
theorem Part.queues_of_outer {p q : Part} (h : q.outer = p.outer) : q.queues = p.queues := by
  have hfwd : q.chain = p.chain := congrArg Outer.chain h
  have hcore : q.mgmt.core = p.mgmt.core := congrArg Outer.core h
  have hcommands : q.mgmt.core.commands = p.mgmt.core.commands := congrArg Management.commands hcore
  have hanswers : q.mgmt.core.answers = p.mgmt.core.answers := congrArg Management.answers hcore
  rw [Management.core_commands, Management.core_commands] at hcommands
  rw [Management.core_answers, Management.core_answers] at hanswers
  have hnotices : q.noticesFit = p.noticesFit := congrArg Outer.noticesFit h
  have hdrives : singleDrives q.drive.queue = singleDrives p.drive.queue := congrArg Outer.singleDrives h
  simp only [Part.queues, hfwd, hcommands, hanswers, hnotices, hdrives]

@[simp] theorem Part.modNodes_queues (p : Part) (g : NodeTable → NodeTable) : (p.modNodes g).queues = p.queues := rfl
@[simp] theorem Part.modEntry_queues (p : Part) (r : Role) (g : EntryRuntime → EntryRuntime) :
    (p.modEntry r g).queues = p.queues := rfl
@[simp] theorem Part.modMeter_queues (p : Part) (g : Metering → Metering) : (p.modMeter g).queues = p.queues := rfl
@[simp] theorem Part.finish_queues (p : Part) : p.finish.queues = p.queues := Part.queues_of_outer p.finish_outer
@[simp] theorem Part.raise_queues (p : Part) (b : NoticeBody) : (p.raise b).queues = p.queues :=
  Part.queues_of_outer (p.raise_outer b)

theorem Part.modMgmt_queues (p : Part) (g : Management → Management)
    (h : (g p.mgmt).commands = p.mgmt.commands ∧ (g p.mgmt).answers = p.mgmt.answers
      ∧ (g p.mgmt).notices = p.mgmt.notices ∧ (g p.mgmt).noticeSize = p.mgmt.noticeSize) :
    (p.modMgmt g).queues = p.queues := by
  obtain ⟨hcommands, hanswers, hnotices, hsize⟩ := h
  simp only [Part.queues, Part.noticesFit, Part.noticeCapacity, Part.modMgmt_mgmt, hcommands, hanswers, hnotices,
    hsize]
  rfl

/-! ## Port B -/

/-- An operation that adds to no queue keeps the capacities. -/
theorem Part.queuesWithin_of_shrunk {p q : Part} (h : p.queuesWithin)
    (hfwd : q.chain.fwd.length ≤ p.chain.fwd.length) (hcommands : q.mgmt.commands.length ≤ p.mgmt.commands.length)
    (hanswers : q.mgmt.answers.length ≤ p.mgmt.answers.length) (hnotices : p.noticesFit → q.noticesFit)
    (hdrives : singleDrives p.drive.queue → singleDrives q.drive.queue) : q.queuesWithin := by
  obtain ⟨fwd, commands, answers, notices, drives⟩ := h
  exact ⟨Nat.le_trans hfwd fwd, Nat.le_trans hcommands commands, Nat.le_trans hanswers answers, hnotices notices, hdrives drives⟩

theorem Part.sendDrive_within (p : Part) (d : Drive) (rest : List Drive) (held : p.drive.queue = d :: rest)
    (h : p.queuesWithin) : (p.sendDrive d rest).queuesWithin :=
  Part.queuesWithin_of_shrunk h (Nat.le_refl _) (Nat.le_refl _) (Nat.le_refl _) id
    (singleDrives_sublist (by rw [held]; exact List.sublist_cons_self d rest))

theorem Part.sendForward_within (p : Part) (f : Frame) (rest : List Frame) (held : p.chain.fwd = f :: rest)
    (h : p.queuesWithin) : (p.sendForward f rest).queuesWithin := by
  have shorter : rest.length ≤ p.chain.fwd.length := by simp [held]
  have withdrawn (c : Drive → Bool) : singleDrives p.drive.queue → singleDrives (p.drive.queue.filter c) :=
    singleDrives_sublist List.filter_sublist
  unfold Part.sendForward
  dsimp only
  split
  · exact Part.queuesWithin_of_shrunk h shorter (Nat.le_refl _) (Nat.le_refl _) id (withdrawn _)
  · split
    · exact Part.queuesWithin_of_shrunk h shorter (Nat.le_refl _) (Nat.le_refl _) id (withdrawn _)
    · exact Part.queuesWithin_of_shrunk h shorter (Nat.le_refl _) (Nat.le_refl _) id id

theorem Part.sendAnswer_within (p : Part) (a : Answer) (rest : List Answer) (held : p.mgmt.answers = a :: rest)
    (h : p.queuesWithin) : (p.sendAnswer a rest).queuesWithin := by
  unfold Part.sendAnswer
  split
  · exact Part.queuesWithin_of_shrunk h (Nat.le_refl _) (Nat.le_refl _) (by simp [Part.transmitOwn, held]) id id
  · exact Part.queuesWithin_of_shrunk h (Nat.le_refl _) (Nat.le_refl _) (by simp [Part.transmitOwn, held]) id id

theorem Part.sendNotice_within (p : Part) (n : Notice) (rest : List Notice) (held : p.mgmt.notices = n :: rest)
    (h : p.queuesWithin) : (p.sendNotice n rest).queuesWithin := by
  refine Part.queuesWithin_of_shrunk h (Nat.le_refl _) (Nat.le_refl _) (Nat.le_refl _) (fun (fit : p.noticesFit) => ?_) id
  have shorter : rest.length ≤ p.mgmt.notices.length := by simp [held]
  exact Nat.le_trans shorter fit

/-- R7: the outbound arbiter takes from the queues and adds to none. -/
theorem Part.arbitrate_within (p : Part) (h : p.queuesWithin) : p.arbitrate.queuesWithin := by
  unfold Part.arbitrate
  split
  · exact h
  · split
    · next d rest held => exact p.sendDrive_within d rest held h
    · split
      · next f rest held => exact p.sendForward_within f rest held h
      · split
        · next a rest held => exact p.sendAnswer_within a rest held h
        · split
          · next n rest held => exact p.sendNotice_within n rest held h
          · exact h

/-! ## Changes of part state -/

@[simp] theorem Part.startTimers_queues (p : Part) : p.startTimers.queues = p.queues := rfl
@[simp] theorem Part.stopTimers_queues (p : Part) : p.stopTimers.queues = p.queues := rfl

@[simp] theorem Part.wake_queues (p : Part) (r : WakeReason) : (p.wake r).queues = p.queues := by
  unfold Part.wake
  dsimp only
  rw [Part.queues_of_outer (Part.demandDue_outer _), Part.queues_of_outer (Part.startMonitor_outer _ _),
    Part.startTimers_queues, Part.queues_of_outer (Part.setPartClaims_outer _ _)]
  exact Part.modMgmt_queues _ _ ⟨rfl, rfl, rfl, rfl⟩

@[simp] theorem Part.enterRunAtRelease_queues (p : Part) : p.enterRunAtRelease.queues = p.queues := by
  unfold Part.enterRunAtRelease
  dsimp only
  rw [Part.queues_of_outer (Part.recomputeDue_outer _), Part.queues_of_outer (Part.demandDue_outer _),
    Part.queues_of_outer (Part.startMonitor_outer _ _), Part.queues_of_outer (Part.setPartClaims_outer _ _)]
  exact Part.modMgmt_queues _ _ ⟨rfl, rfl, rfl, rfl⟩

theorem Part.restZones_outer (p : Part) : p.restZones.outer = p.outer := by
  simp [Part.restZones]

@[simp] theorem Part.sleep_queues (p : Part) (code : Nat) : (p.sleep code).queues = p.queues := by
  unfold Part.sleep
  dsimp only
  rw [Part.queues_of_outer (Part.demandDue_outer _), Part.queues_of_outer (Part.restZones_outer _),
    Part.queues_of_outer (Part.endManual_outer _), Part.stopTimers_queues,
    Part.queues_of_outer (Part.sleepMonitor_outer _), Part.queues_of_outer (Part.setPartClaims_outer _ _)]
  exact Part.modMgmt_queues _ _ ⟨rfl, rfl, rfl, rfl⟩

/-! ## Frames at port A -/

theorem Part.forward_within (p : Part) (f : Frame) (h : p.queuesWithin) : (p.forward f).queuesWithin := by
  obtain ⟨hfwd, hrest⟩ := h
  unfold Part.forward
  refine ⟨?_, hrest⟩
  simp only [Part.modChain_chain]
  split
  · next room =>
    rw [List.length_append]
    exact room
  · exact hfwd

theorem Part.pushAnswer_within (p : Part) (a : Answer) (h : p.queues.roomy) : (p.pushAnswer a).queuesWithin := by
  obtain ⟨⟨hfwd, hcommands, -, hnotices, hdrives⟩, (room : p.mgmt.answers.length < 8)⟩ := h
  refine ⟨hfwd, hcommands, ?_, hnotices, hdrives⟩
  rw [Part.pushAnswer, Part.modMgmt_mgmt, List.length_append]
  exact room

theorem Part.enqueueCommand_within (p : Part) (f : Frame) (h : p.queuesWithin) :
    (p.enqueueCommand f).queuesWithin := by
  unfold Part.enqueueCommand
  split
  · next room =>
    obtain ⟨hfwd, -, hanswers, hnotices, hdrives⟩ := h
    refine ⟨hfwd, ?_, hanswers, hnotices, hdrives⟩
    rw [Part.modMgmt_mgmt, List.length_append]
    exact room
  · split
    · next place => exact p.pushAnswer_within _ ⟨h, place.1⟩
    · exact h

@[simp] theorem Part.markUsed_queues (p : Part) (e : NodeEntry) (seq : Byte) : (p.markUsed e seq).queues = p.queues := by
  unfold Part.markUsed
  dsimp only
  split <;> simp

@[simp] theorem Part.noteGateway_queues (p : Part) (f : Frame) : (p.noteGateway f).queues = p.queues := by
  unfold Part.noteGateway
  split
  · rfl
  · split <;> simp

@[simp] theorem Part.setReading_queues (p : Part) (r : Reading) : (p.setReading r).queues = p.queues := rfl

theorem Part.useInlet_queues (p : Part) (e : NodeEntry) (r : InletReadings) : (p.useInlet e r).queues = p.queues := by
  have used : ((p.meterInlet e r).inletReturns r).queues = p.queues := Part.queues_of_outer (by simp)
  unfold Part.useInlet
  dsimp only
  split
  · rw [Part.wake_queues, used]
  · exact used

/-- The use of a sample joins no queue but those of drives and notices, whose capacities it keeps; an INLET sample
in DORMANT may wake the part. -/
theorem Part.consume_queues (p : Part) (e : NodeEntry) (r : Reading) (a b : Bool) :
    (p.consume e r a b).queues = p.queues := by
  cases r with
  | inlet x => exact p.useInlet_queues e x
  | pack x => exact Part.queues_of_outer p.usePack_outer
  | heater x => exact Part.queues_of_outer (p.useHeater_outer e x b)
  | cargo x => exact Part.queues_of_outer (p.useCargo_outer e x)
  | converter x => exact Part.queues_of_outer (p.useConverter_outer x)
  | contactor x => exact Part.queues_of_outer (p.takeSwitches_outer _)
  | injector x => exact Part.queues_of_outer (p.takeInjector_outer x a)

@[simp] theorem Part.useSample_queues (p : Part) (e : NodeEntry) (seq : Byte) (r : Reading) :
    (p.useSample e seq r).queues = p.queues := by
  simp [Part.useSample, Part.consume_queues]

@[simp] theorem Part.examineSample_queues (p : Part) (f : Frame) : (p.examineSample f).queues = p.queues := by
  unfold Part.examineSample
  split
  · rfl
  · split
    · rfl
    · split <;> simp

theorem Part.routeOrder_within (p : Part) (f : Frame) (h : p.queuesWithin) : (p.routeOrder f).queuesWithin := by
  unfold Part.routeOrder
  split
  · rwa [Part.queuesWithin_iff, Part.raise_queues]
  · split
    · exact h
    · exact p.forward_within f h

theorem Part.route_within (p : Part) (f : Frame) (h : p.queuesWithin) : (p.route f).queuesWithin := by
  unfold Part.route
  split
  case h_1 =>
    split
    · split
      · exact p.enqueueCommand_within f h
      · exact h
    · exact p.forward_within f h
  case h_2 =>
    have used : (p.examineSample f).queuesWithin := by rwa [Part.queuesWithin_iff, Part.examineSample_queues]
    dsimp only
    split
    · exact used
    · exact Part.forward_within _ f used
  case h_3 => exact p.routeOrder_within f h
  case h_4 => exact p.routeOrder_within f h
  all_goals
    split
    · exact h
    · exact p.forward_within f h

theorem Part.receive_within (p : Part) (bytes : List Byte) (h : p.queuesWithin) : (p.receive bytes).queuesWithin := by
  unfold Part.receive
  split
  · exact h
  · next f _ =>
    split
    · exact h
    · exact Part.route_within _ f (by rwa [Part.queuesWithin_iff, Part.noteGateway_queues])

/-! ## Commands -/

/-- A reply leaves the queues within their capacities, with a place for the answer it gives. -/
def Reply.fits : Reply → Prop
  | .silent => True
  | .answer after _ _ => after.queues.roomy
  | .hold after => after.queuesWithin

theorem Part.dropCommand_roomy (p : Part) (h : p.queues.roomy) : p.dropCommand.queues.roomy := by
  obtain ⟨h, room⟩ := h
  refine ⟨Part.queuesWithin_of_shrunk h (Nat.le_refl _) ?_ (Nat.le_refl _) id id, room⟩
  simp [Part.dropCommand]

/-- R177, R179: what a reply does to the queues. -/
theorem respond_within (c : Frame) (before : Part) (r : Reply) (h : before.queues.roomy) (fits : r.fits) :
    (respond c before r).queuesWithin := by
  cases r with
  | silent => exact (before.dropCommand_roomy h).1
  | answer after status fields => exact Part.pushAnswer_within _ _ (after.dropCommand_roomy fits)
  | hold after => exact fits

theorem Part.refuse_fits (p : Part) (status : Status) (h : p.queues.roomy) : (p.refuse status).fits := h

/-- An answer after effects that keep the queues finds its place. -/
theorem Reply.fits_of_queues {p after : Part} (status : Status) (fields : List Byte) (h : p.queues.roomy)
    (same : after.queues = p.queues) : (Reply.answer after status fields).fits := by
  show after.queues.roomy
  rwa [same]

theorem Reply.fits_of_outer {p after : Part} (status : Status) (fields : List Byte) (h : p.queues.roomy)
    (same : after.outer = p.outer) : (Reply.answer after status fields).fits :=
  Reply.fits_of_queues status fields h (Part.queues_of_outer same)

/-- The work of a command: with a place in the answer queue, its reply finds that place. -/
def keepsQueues (work : Part → Frame → Reply) : Prop := ∀ p c, p.queues.roomy → (work p c).fits

end Sys2Proof.Machine
end

section
namespace Sys2Proof.Machine

/-! ## The works that answer without an effect -/

theorem unknownWork_keeps : keepsQueues unknownWork := fun p _ h => p.refuse_fits _ h

theorem readBranchesWork_keeps : keepsQueues readBranchesWork := fun _ _ h => h
theorem readBudgetWork_keeps : keepsQueues readBudgetWork := fun _ _ h => h
theorem sessionStatusWork_keeps : keepsQueues sessionStatusWork := fun _ _ h => h
theorem readInsulationWork_keeps : keepsQueues readInsulationWork := fun _ _ h => h

theorem readHeatWork_keeps : keepsQueues readHeatWork := by
  intro p c h
  unfold readHeatWork
  split <;> exact h

theorem readFaultsWork_keeps : keepsQueues readFaultsWork := by
  intro p c h
  unfold readFaultsWork
  dsimp only
  repeat' split
  all_goals exact h

theorem readRecordWork_keeps : keepsQueues readRecordWork := by
  intro p c h
  unfold readRecordWork
  dsimp only
  repeat' split
  all_goals exact h

theorem readTableWork_keeps : keepsQueues readTableWork := by
  intro p c h
  unfold readTableWork
  dsimp only
  repeat' split
  all_goals exact h

/-! ## The Management Unit's works -/

theorem statusWork_keeps : keepsQueues statusWork := by
  intro p c h
  unfold statusWork
  split <;> exact h

theorem releaseWork_keeps : keepsQueues releaseWork := by
  intro p c h
  unfold releaseWork
  split
  · exact h
  · split
    · exact h
    · exact Reply.fits_of_queues _ _ h (by simp)

theorem sleepWork_keeps : keepsQueues sleepWork := by
  intro p c h
  unfold sleepWork
  dsimp only
  split
  · exact h
  · split
    · exact h
    · split
      · exact h
      · split
        · exact h
        · exact Reply.fits_of_queues _ _ h (by simp)

theorem wakeWork_keeps : keepsQueues wakeWork := by
  intro p c h
  unfold wakeWork
  split
  · exact Reply.fits_of_queues _ _ h (by simp)
  · exact h

/-- R176: the notices that no longer fit are dropped with the new size. -/
theorem Part.configure_roomy (p : Part) (record staging notice : Nat) (h : p.queues.roomy) :
    (p.configure record staging notice).queues.roomy := by
  have same : (p.configure record staging notice).queues = { p.queues with
      noticesFit := (p.mgmt.notices.take (notice / 32)).length ≤ notice / 32 } := by
    simp [Part.configure, Part.endStaging, Part.queues, Part.noticesFit, Part.noticeCapacity]
  rw [same]
  obtain ⟨⟨hfwd, hcommands, hanswers, -, hdrives⟩, room⟩ := h
  exact ⟨⟨hfwd, hcommands, hanswers, List.length_take_le .., hdrives⟩, room⟩

theorem configureMemoryWork_keeps : keepsQueues configureMemoryWork := by
  intro p c h
  unfold configureMemoryWork
  dsimp only
  split
  · exact h
  · split
    · exact h
    · exact p.configure_roomy _ _ _ h

theorem setNoticeMaskWork_keeps : keepsQueues setNoticeMaskWork := by
  intro p c h
  unfold setNoticeMaskWork
  dsimp only
  split <;> exact h

theorem setClockWork_keeps : keepsQueues setClockWork := by
  intro p c h
  unfold setClockWork
  dsimp only
  split
  · exact h
  · refine Reply.fits_of_outer _ _ h ?_
    unfold Part.setClock
    dsimp only
    split <;> simp [Metering.asEven]

/-- R187: the traffic that a RESET clears leaves every queue within its capacity. -/
theorem Part.clearTraffic_roomy (p : Part) (h : p.queues.roomy) : p.clearTraffic.queues.roomy := by
  obtain ⟨h, -⟩ := h
  refine ⟨Part.queuesWithin_of_shrunk h (Nat.zero_le _) ?_ (Nat.zero_le _) (fun _ => Nat.zero_le _) id, Nat.succ_pos 7⟩
  exact (List.take_sublist 1 p.mgmt.commands).length_le

theorem resetLinkWork_keeps : keepsQueues resetLinkWork := by
  intro p c h
  unfold resetLinkWork
  split
  · exact p.clearTraffic_roomy h
  · exact h

@[simp] theorem Part.resetHeating_outer (p : Part) : p.resetHeating.outer = p.outer := by
  simp [Part.resetHeating]

theorem resetHeatWork_keeps : keepsQueues resetHeatWork :=
  fun _ _ h => Reply.fits_of_outer _ _ h (by simp)

@[simp] theorem Part.resetSession_outer (p : Part) : p.resetSession.outer = p.outer := by
  unfold Part.resetSession
  dsimp only
  split <;> simp

@[simp] theorem Part.resetBudget_outer (p : Part) : p.resetBudget.outer = p.outer := rfl

@[simp] theorem Part.resetHeatingPart_outer (p : Part) : p.resetHeatingPart.outer = p.outer := by
  simp [Part.resetHeatingPart]

@[simp] theorem Part.resetMonitor_outer (p : Part) : p.resetMonitor.outer = p.outer := by
  unfold Part.resetMonitor
  dsimp only
  split <;> simp

@[simp] theorem Part.resetLocator_outer (p : Part) : p.resetLocator.outer = p.outer := by
  simp [Part.resetLocator]

theorem Part.resetNodes_queues (p : Part) : p.resetNodes.queues = p.queues := rfl

theorem Part.resetMetering_queues (p : Part) : p.resetMetering.queues = p.queues := by
  unfold Part.resetMetering
  rw [Part.queues_of_outer (Part.lookUpBand_outer _), Part.modMeter_queues]

theorem Part.endStaging_queues (p : Part) : p.endStaging.queues = p.queues := by
  unfold Part.endStaging
  rw [Part.queues_of_outer (Part.modStore_outer _ _), Part.modMgmt_queues _ _ ⟨rfl, rfl, rfl, rfl⟩]

/-- R33: a PART reset empties the drive queue and queues one drive to each node of switches. -/
theorem Part.resetDrives_roomy (p : Part) (h : p.queues.roomy) : p.resetDrives.queues.roomy := by
  unfold Part.resetDrives
  dsimp only
  rw [Part.queues_of_outer (Part.queueDrive_outer _ _), Part.queues_of_outer (Part.queueDrive_outer _ _)]
  obtain ⟨h, room⟩ := h
  exact ⟨Part.queuesWithin_of_shrunk h (Nat.le_refl _) (Nat.le_refl _) (Nat.le_refl _) id (fun _ => List.Pairwise.nil), room⟩

theorem Part.resetPart_roomy (p : Part) (h : p.queues.roomy) : p.resetPart.queues.roomy := by
  unfold Part.resetPart
  dsimp only
  rw [Part.finish_queues, Part.queues_of_outer (Part.resetLocator_outer _),
    Part.queues_of_outer (Part.resetMonitor_outer _), Part.queues_of_outer (Part.resetHeatingPart_outer _),
    Part.queues_of_outer (Part.resetBudget_outer _), Part.queues_of_outer (Part.clampInlet_outer _),
    Part.queues_of_outer (Part.clampConverter_outer _)]
  apply Part.resetDrives_roomy
  rw [Part.resetNodes_queues, Part.resetMetering_queues, Part.queues_of_outer (Part.resetSession_outer _),
    Part.modMgmt_queues _ _ ⟨rfl, rfl, rfl, rfl⟩, Part.endStaging_queues, Part.modMgmt_queues _ _ ⟨rfl, rfl, rfl, rfl⟩]
  exact p.clearTraffic_roomy h

theorem resetPartWork_keeps : keepsQueues resetPartWork := fun p _ h => p.resetPart_roomy h

/-! ## The works of staging -/

theorem loadBeginWork_keeps : keepsQueues loadBeginWork := by
  intro p c h
  have begun (t : TableId) (n : Nat) : (p.beginStaging t n).queues = p.queues :=
    p.modMgmt_queues _ ⟨rfl, rfl, rfl, rfl⟩
  have borrowed (q : Part) : q.takeBorrow.queues = q.queues := Part.queues_of_outer (by simp [Part.takeBorrow])
  unfold loadBeginWork
  dsimp only
  split
  · exact h
  · split
    · exact h
    · split
      · exact h
      · split
        · exact h
        · refine Reply.fits_of_queues _ _ h ?_
          split
          · rw [borrowed, begun]
          · exact begun _ _

theorem loadDataWork_keeps : keepsQueues loadDataWork := by
  intro p c h
  unfold loadDataWork
  dsimp only
  split
  · exact h
  · split <;> exact h

theorem loadCancelWork_keeps : keepsQueues loadCancelWork := fun _ _ h => h

theorem loadCommitWork_keeps : keepsQueues loadCommitWork := by
  intro p c h
  unfold loadCommitWork
  split
  · exact h
  · split
    · exact h
    · split
      · exact h
      · exact h.1

/-! ## The works of the session and its records -/

theorem openSessionWork_keeps : keepsQueues openSessionWork := by
  intro p c h
  unfold openSessionWork
  dsimp only
  iterate 9
    split
    · exact h
  exact Reply.fits_of_outer _ _ h (by simp [Part.openSession])

theorem pauseWork_keeps : keepsQueues pauseWork := by
  intro p c h
  unfold pauseWork
  split
  · exact h
  · exact h
  · exact Reply.fits_of_outer _ _ h (by simp)

theorem resumeWork_keeps : keepsQueues resumeWork := by
  intro p c h
  unfold resumeWork
  split
  · exact h
  · exact h
  · exact Reply.fits_of_outer _ _ h (by simp)

theorem abortWork_keeps : keepsQueues abortWork := by
  intro p c h
  unfold abortWork
  split
  · exact h
  · exact Reply.fits_of_outer _ _ h (by simp)

theorem splitWork_keeps : keepsQueues splitWork := by
  intro p c h
  unfold splitWork
  split
  · exact h
  · exact h
  · exact h
  · split
    · exact h
    · exact Reply.fits_of_outer _ _ h (by simp [Part.split])

theorem releaseRecordsWork_keeps : keepsQueues releaseRecordsWork := by
  intro p c h
  unfold releaseRecordsWork
  dsimp only
  split <;> exact h

/-! ## The works of heating -/

theorem heatNowWork_keeps : keepsQueues heatNowWork := by
  intro p c h
  unfold heatNowWork
  dsimp only
  split
  · exact h
  · split
    · exact h
    · exact Reply.fits_of_outer _ _ h (by simp)

theorem heatStopWork_keeps : keepsQueues heatStopWork :=
  fun _ _ h => Reply.fits_of_outer _ _ h (by simp)

theorem setDepartureWork_keeps : keepsQueues setDepartureWork := by
  intro p c h
  unfold setDepartureWork
  dsimp only
  iterate 3
    split
    · exact h
  exact Reply.fits_of_outer _ _ h (by simp [Part.setDeparture])

theorem cancelDepartureWork_keeps : keepsQueues cancelDepartureWork := by
  intro p c h
  unfold cancelDepartureWork
  dsimp only
  iterate 2
    split
    · exact h
  exact Reply.fits_of_outer _ _ h (by simp)

/-! ## The works of the Insulation Monitor and the Branch Locator -/

theorem clearTripWork_keeps : keepsQueues clearTripWork := by
  intro p c h
  unfold clearTripWork
  iterate 3
    split
    · exact h
  exact Reply.fits_of_outer _ _ h (by simp [Part.clearTrip])

theorem selfCheckWork_keeps : keepsQueues selfCheckWork := by
  intro p c h
  unfold selfCheckWork
  split
  · exact h
  · split
    · exact h
    · exact Reply.fits_of_outer _ _ h (by simp)

theorem locateNowWork_keeps : keepsQueues locateNowWork := by
  intro p c h
  unfold locateNowWork
  repeat' split
  all_goals exact h

theorem Part.restoreBranch_outer (p : Part) (b : Branch) : (p.restoreBranch b).outer = p.outer := by
  unfold Part.restoreBranch
  dsimp only
  split <;> simp

theorem restoreBranchWork_keeps : keepsQueues restoreBranchWork := by
  intro p c h
  unfold restoreBranchWork
  iterate 3
    split
    · exact h
  exact Reply.fits_of_outer _ _ h (by rw [Part.finish_outer, Part.restoreBranch_outer])

/-! ## The taking of a command -/

/-- R177: every command's work leaves the place that its answer takes. -/
theorem workOf_keepsQueues (name : CommandName) : keepsQueues (workOf name) := by
  cases name with
  | unknown => exact unknownWork_keeps
  | status => exact statusWork_keeps
  | release => exact releaseWork_keeps
  | sleep => exact sleepWork_keeps
  | wake => exact wakeWork_keeps
  | configureMemory => exact configureMemoryWork_keeps
  | setNoticeMask => exact setNoticeMaskWork_keeps
  | loadBegin => exact loadBeginWork_keeps
  | loadData => exact loadDataWork_keeps
  | loadCommit => exact loadCommitWork_keeps
  | loadCancel => exact loadCancelWork_keeps
  | readTable => exact readTableWork_keeps
  | resetLink => exact resetLinkWork_keeps
  | resetHeat => exact resetHeatWork_keeps
  | resetPart => exact resetPartWork_keeps
  | readBranches => exact readBranchesWork_keeps
  | setClock => exact setClockWork_keeps
  | readBudget => exact readBudgetWork_keeps
  | openSession => exact openSessionWork_keeps
  | pauseSession => exact pauseWork_keeps
  | resumeSession => exact resumeWork_keeps
  | abortSession => exact abortWork_keeps
  | splitSession => exact splitWork_keeps
  | sessionStatus => exact sessionStatusWork_keeps
  | heatNow => exact heatNowWork_keeps
  | heatStop => exact heatStopWork_keeps
  | setDeparture => exact setDepartureWork_keeps
  | cancelDeparture => exact cancelDepartureWork_keeps
  | readHeat => exact readHeatWork_keeps
  | clearTrip => exact clearTripWork_keeps
  | selfCheck => exact selfCheckWork_keeps
  | readInsulation => exact readInsulationWork_keeps
  | locateNow => exact locateNowWork_keeps
  | restoreBranch => exact restoreBranchWork_keeps
  | readFaults => exact readFaultsWork_keeps
  | readRecord => exact readRecordWork_keeps
  | releaseRecords => exact releaseRecordsWork_keeps

theorem Part.examine_fits (p : Part) (name : CommandName) {work : Part → Frame → Reply} (keeps : keepsQueues work)
    (c : Frame) (h : p.queues.roomy) : (p.examine name work c).fits := by
  unfold Part.examine
  split
  · trivial
  iterate 4
    split
    · exact p.refuse_fits _ h
  exact keeps p c h

/-- R177: a head that is taken finds a place in the answer queue. -/
theorem Part.place_of_takeable (p : Part) (h : p.takeable = true) : p.mgmt.answers.length < 8 := by
  simp only [Part.takeable, Bool.and_eq_true, decide_eq_true_eq] at h
  exact h.2

theorem Part.takeAs_within (p : Part) (name : CommandName) {work : Part → Frame → Reply} (keeps : keepsQueues work)
    (h : p.queuesWithin) : (p.takeAs name work).queuesWithin := by
  unfold Part.takeAs
  split
  · exact h
  · next c _ _ =>
    split
    · next taken =>
      have roomy : p.queues.roomy := ⟨h, p.place_of_takeable taken.1⟩
      exact respond_within c p _ roomy (p.examine_fits name keeps c roomy)
    · exact h

theorem Part.takeHead_within (p : Part) (h : p.queuesWithin) : p.takeHead.queuesWithin := by
  unfold Part.takeHead
  split
  · exact h
  · next name _ => exact p.takeAs_within name (workOf_keepsQueues name) h

/-! ## The completion of a LOAD_COMMIT -/

theorem Part.commitLimit_outer (p : Part) (t : Loaded LimitTable) : (p.commitLimit t).outer = p.outer := by
  unfold Part.commitLimit
  dsimp only
  split <;> simp

theorem Part.commitHeat_outer (p : Part) (t : Loaded HeatTable) : (p.commitHeat t).outer = p.outer := by
  simp [Part.commitHeat]

theorem Part.commitInsulation_outer (p : Part) (t : Loaded InsulationTable) :
    (p.commitInsulation t).outer = p.outer := by
  unfold Part.commitInsulation
  dsimp only
  split <;> simp

/-- The commit of a valid image joins no queue but those of drives and notices. -/
theorem Part.judgeImage_queues (p q : Part) (t : TableId) (img : List Byte) (h : p.judgeImage t img = .ok q) :
    q.queues = p.queues := by
  have judged {α : Type} (j : Judged α) (f : α → Part) (same : ∀ x, (f x).queues = p.queues)
      (h : j.map f = .ok q) : q.queues = p.queues := by
    cases j with
    | error k => cases h
    | ok x => cases h; exact same x
  cases t with
  | node => exact judged (judgeNode p.chain.address img) (fun x => p.commitNode ⟨img, x⟩) (fun _ => rfl) h
  | limit =>
    exact judged (judgeLimit img) (fun x => p.commitLimit ⟨img, x⟩)
      (fun _ => Part.queues_of_outer (p.commitLimit_outer _)) h
  | budget => exact judged (judgeBudget img) (fun x => p.commitBudget ⟨img, x⟩) (fun _ => rfl) h
  | tariff =>
    exact judged (judgeTariff img) (fun x => p.commitTariff ⟨img, x⟩)
      (fun _ => Part.queues_of_outer (by simp [Part.commitTariff, Metering.asEven])) h
  | heat =>
    exact judged (judgeHeat img) (fun x => p.commitHeat ⟨img, x⟩)
      (fun _ => Part.queues_of_outer (p.commitHeat_outer _)) h
  | insulation =>
    exact judged (judgeInsulation img) (fun x => p.commitInsulation ⟨img, x⟩)
      (fun _ => Part.queues_of_outer (p.commitInsulation_outer _)) h

theorem Part.settleCommit_queues (p : Part) (s : Staging) : (p.settleCommit s).queues = p.queues := by
  unfold Part.settleCommit
  dsimp only
  rw [Part.finish_queues, Part.raise_queues, Part.modMgmt_queues _ _ ⟨rfl, rfl, rfl, rfl⟩, Part.endStaging_queues]

theorem Part.judgeStaging_fits (p : Part) (s : Staging) (h : p.queues.roomy) : (p.judgeStaging s).fits := by
  unfold Part.judgeStaging
  split
  · exact h
  · split
    · exact h
    · split
      · exact h
      · next q valid =>
        exact Reply.fits_of_queues _ _ h ((q.settleCommit_queues s).trans (p.judgeImage_queues q _ _ valid))

theorem Part.completeCommit_within (p : Part) (h : p.queues.roomy) : p.completeCommit.queuesWithin := by
  unfold Part.completeCommit
  dsimp only
  split
  · next c _ s _ _ => exact respond_within c _ _ h (Part.judgeStaging_fits _ s h)
  · exact h.1

/-! ## The events of the part -/

theorem Part.place_of_answersFull (p : Part) (h : p.answersFull = false) : p.mgmt.answers.length < 8 := by
  simpa [Part.answersFull] using h

theorem Part.placeFreed_within (p : Part) (h : p.queues.roomy) : p.placeFreed.queuesWithin := by
  unfold Part.placeFreed
  split
  · split
    · exact p.completeCommit_within h
    · exact h.1
  · exact p.takeHead_within h.1

theorem Part.endTransmission_within (p : Part) (h : p.queuesWithin) : p.endTransmission.queuesWithin := by
  have chosen : (p.modChain fun c => { c with portB := none }).arbitrate.queuesWithin := Part.arbitrate_within _ h
  unfold Part.endTransmission
  dsimp only
  split
  · next freed =>
    simp only [Bool.and_eq_true, Bool.not_eq_true'] at freed
    exact Part.placeFreed_within _ ⟨chosen, Part.place_of_answersFull _ freed.2⟩
  · exact chosen

theorem Part.validationDone_within (p : Part) (h : p.queuesWithin) : p.validationDone.queuesWithin := by
  unfold Part.validationDone
  split
  · exact h
  · split
    · exact h
    · next place => exact p.completeCommit_within ⟨h, p.place_of_answersFull (by simpa using place)⟩

theorem Part.goStale_queues (p : Part) (role : Role) : (p.goStale role).queues = p.queues := by
  unfold Part.goStale
  dsimp only
  rw [Part.finish_queues, Part.queues_of_outer (Part.reactStale_outer _ _), Part.raise_queues, Part.modEntry_queues]

theorem Part.minuteTick_queues (p : Part) : p.minuteTick.queues = p.queues := by
  have counted : (((p.countMinute.refreshBand).countDownDepartures).evalWindows).queues = p.queues := by
    rw [Part.queues_of_outer (Part.evalWindows_outer _), Part.queues_of_outer (Part.countDownDepartures_outer _),
      Part.queues_of_outer (Part.refreshBand_outer _)]
    rfl
  unfold Part.minuteTick
  dsimp only
  rw [Part.finish_queues]
  split
  · rw [Part.wake_queues, counted]
  · exact counted

theorem Part.initial_within (strap : BitVec 2) (b : Option Frame) : (Part.initial strap b).queuesWithin :=
  ⟨Nat.zero_le _, Nat.zero_le _, Nat.zero_le _, Nat.zero_le _, List.Pairwise.nil⟩

/-- R184: a completion that is commanded with a validation in progress. -/
theorem Part.completion_within (p : Part) (h : p.queuesWithin) :
    (p.when p.mgmt.validation.isSome fun p => p.validationDone).queuesWithin := by
  unfold Part.when
  split
  · exact Part.arbitrate_within _ (p.validationDone_within h)
  · exact h

/-- An expiry, whether due or not, that keeps the queues before the arbiter chooses. -/
theorem Part.when_within (p : Part) (due : Bool) (f : Part → Part) (same : (f p).queues = p.queues)
    (h : p.queuesWithin) : (p.when due f).queuesWithin := by
  unfold Part.when
  split
  · refine Part.arbitrate_within _ ?_
    rwa [Part.queuesWithin_iff, same]
  · exact h

theorem Part.when_within_of_outer (p : Part) (due : Bool) (f : Part → Part) (same : (f p).outer = p.outer)
    (h : p.queuesWithin) : (p.when due f).queuesWithin :=
  p.when_within due f (Part.queues_of_outer same) h

/-- The row of a command's taking. -/
theorem State.take_within (s t : State) (name : CommandName) (h : s.part.queuesWithin)
    (taken : s.take name (workOf name) = .next t) : t.part.queuesWithin := by
  cases taken
  exact Part.arbitrate_within _ (s.part.takeAs_within name (workOf_keepsQueues name) h)

/-- A row whose meaning on the part is `f`. -/
theorem State.after_within {s t : State} (f : Part → Part) (keeps : (f s.part).queuesWithin)
    (ran : s.after f = .next t) : t.part.queuesWithin := by
  cases ran
  exact keeps

theorem State.when_within {s t : State} (due : Part → Bool) (f : Part → Part) (h : s.part.queuesWithin)
    (same : (f s.part).outer = s.part.outer) (ran : (s.after fun p => p.when (due p) f) = .next t) :
    t.part.queuesWithin :=
  State.after_within _ (s.part.when_within_of_outer _ f same h) ran

/-- Every row keeps every queue within its capacity. -/
theorem exec_within (i : Instr) (s t : State) (h : s.part.queuesWithin) (ran : exec i s = .next t) :
    t.part.queuesWithin := by
  cases i
  case powerOn strap =>
    exact State.after_within (fun _ => Part.initial strap none) (Part.initial_within strap none) ran
  case resetInput strap =>
    exact State.after_within (fun p => Part.initial strap p.chain.portB) (Part.initial_within strap _) ran
  case frameArrival bytes =>
    exact State.after_within (fun p => (p.receive bytes).arbitrate)
      (Part.arbitrate_within _ (s.part.receive_within bytes h)) ran
  case transmissionEnd => exact State.after_within Part.endTransmission (s.part.endTransmission_within h) ran
  case stalenessExpiry role =>
    exact State.after_within (fun p => p.when (p.staleDue role) fun p => p.goStale role)
      (s.part.when_within _ (fun p => p.goStale role) (s.part.goStale_queues role) h) ran
  case switchDeadlineExpiry b =>
    exact State.when_within (fun p => p.deadlinePassed (p.branch b).change)
      (fun p => (p.failChange .deadline b).finish) h (by simp) ran
  case heatPendingExpiry z =>
    exact State.when_within (fun p => p.deadlinePassed (p.zone z).change)
      (fun p => p.failHeatChange z) h (by simp) ran
  case modeDeadlineExpiry =>
    exact State.when_within (fun p => p.deadlinePassed p.monitor.change)
      (fun p => p.modeFailed.finish) h (by simp) ran
  case inletStaleGraceExpiry =>
    exact State.when_within (fun p => p.inletGraceDue) (fun p => (p.terminate .inletStale).finish) h (by simp) ran
  case unknownGraceExpiry =>
    exact State.when_within (fun p => p.unknownGraceDue)
      (fun p => (p.terminate .insulationUnknown).finish) h (by simp) ran
  case durationTimerExpiry =>
    exact State.when_within (fun p => p.durationDue) (fun p => (p.terminate .duration).finish) h (by simp) ran
  case burstExpiry z =>
    exact State.when_within (fun p => p.endReached z .burst) (fun p => (p.burstExpires z).finish) h (by simp) ran
  case restExpiry z =>
    exact State.when_within (fun p => p.endReached z .rest) (fun p => (p.restExpires z).finish) h (by simp) ran
  case minuteTick =>
    exact State.after_within (fun p => p.when p.minuteDue fun p => p.minuteTick)
      (s.part.when_within _ (fun p => p.minuteTick) s.part.minuteTick_queues h) ran
  case wakeIntervalExpiry =>
    have same : (s.part.wake .interval).finish.queues = s.part.queues := by simp
    exact State.after_within (fun p => p.when p.wakeDue fun p => (p.wake .interval).finish)
      (s.part.when_within _ (fun p => (p.wake .interval).finish) same h) ran
  case loadCommitCompletion =>
    exact State.after_within (fun p => p.when p.mgmt.validation.isSome fun p => p.validationDone)
      (s.part.completion_within h) ran
  case unknownCommand => exact s.take_within t .unknown h ran
  case status => exact s.take_within t .status h ran
  case release => exact s.take_within t .release h ran
  case sleep => exact s.take_within t .sleep h ran
  case wake => exact s.take_within t .wake h ran
  case configureMemory => exact s.take_within t .configureMemory h ran
  case setNoticeMask => exact s.take_within t .setNoticeMask h ran
  case loadBegin => exact s.take_within t .loadBegin h ran
  case loadData => exact s.take_within t .loadData h ran
  case loadCommit => exact s.take_within t .loadCommit h ran
  case loadCancel => exact s.take_within t .loadCancel h ran
  case readTable => exact s.take_within t .readTable h ran
  case resetLink => exact s.take_within t .resetLink h ran
  case resetHeat => exact s.take_within t .resetHeat h ran
  case resetPart => exact s.take_within t .resetPart h ran
  case readBranches => exact s.take_within t .readBranches h ran
  case setClock => exact s.take_within t .setClock h ran
  case readBudget => exact s.take_within t .readBudget h ran
  case openSession => exact s.take_within t .openSession h ran
  case pauseSession => exact s.take_within t .pauseSession h ran
  case resumeSession => exact s.take_within t .resumeSession h ran
  case abortSession => exact s.take_within t .abortSession h ran
  case splitSession => exact s.take_within t .splitSession h ran
  case sessionStatus => exact s.take_within t .sessionStatus h ran
  case heatNow => exact s.take_within t .heatNow h ran
  case heatStop => exact s.take_within t .heatStop h ran
  case setDeparture => exact s.take_within t .setDeparture h ran
  case cancelDeparture => exact s.take_within t .cancelDeparture h ran
  case readHeat => exact s.take_within t .readHeat h ran
  case clearTrip => exact s.take_within t .clearTrip h ran
  case selfCheck => exact s.take_within t .selfCheck h ran
  case readInsulation => exact s.take_within t .readInsulation h ran
  case locateNow => exact s.take_within t .locateNow h ran
  case restoreBranch => exact s.take_within t .restoreBranch h ran
  case readFaults => exact s.take_within t .readFaults h ran
  case readRecord => exact s.take_within t .readRecord h ran
  case releaseRecords => exact s.take_within t .releaseRecords h ran

theorem idle_within (s t : State) (h : s.part.queuesWithin) (ran : idle s = .next t) : t.part.queuesWithin := by
  unfold idle at ran
  split at ran
  · next i _ => exact exec_within i s t h ran
  · cases ran; exact h

/-- Settles O9: a step is a row, an own event, or 1 ms that touches no queue. -/
theorem queuesStayWithinCapacity : Obligations.QueuesStayWithinCapacity := by
  intro s t h ran
  unfold step at ran
  split at ran
  · next i rest _ => exact exec_within i { s with pending := rest } t h ran
  · exact idle_within s t h ran

end Sys2Proof.Machine
end

section
/-! PROOFS. Frames at port A and port B (O11 to O16, O18 to O21), and the rows that are not due (O37). -/

namespace Sys2Proof.Machine

/-! ## What a notice and a drive leave alone -/

@[simp] theorem Part.raise_now (p : Part) (b : NoticeBody) : (p.raise b).now = p.now := rfl
@[simp] theorem Part.raise_chain (p : Part) (b : NoticeBody) : (p.raise b).chain = p.chain := rfl
@[simp] theorem Part.raise_nodes (p : Part) (b : NoticeBody) : (p.raise b).nodes = p.nodes := rfl

/-! ## The check of R2 -/

theorem Frame.receive_of_failsCheck {bytes : List Byte} (h : failsCheck bytes) : Frame.receive bytes = none := by
  unfold Frame.receive
  dsimp only
  split
  · rfl
  · next sized =>
    split
    · rfl
    · next crc =>
      simp only [Bool.or_eq_true, decide_eq_true_eq, bne_iff_ne, not_or, Classical.not_not] at sized crc
      rcases h with bad | long | size | kind
      · exact absurd crc bad
      · exact absurd long sized.1.2
      · exact absurd sized.2 size
      · rw [kind]

theorem Frame.receive_of_passes {bytes : List Byte} (h : ¬ failsCheck bytes) :
    ∃ k, FrameKind.ofCode (byteAt bytes 2) = some k
      ∧ Frame.receive bytes = some ⟨byteAt bytes 0, byteAt bytes 1, k, byteAt bytes 3, byteAt bytes 5,
        (bytes.drop 6).take (u8 bytes 4)⟩ := by
  simp only [failsCheck, not_or, ne_eq, Classical.not_not, Nat.not_lt] at h
  obtain ⟨crc, short, size, kind⟩ := h
  obtain ⟨k, hk⟩ := Option.ne_none_iff_exists'.mp kind
  refine ⟨k, hk, ?_⟩
  have sized : (decide (bytes.length < 8) || decide (32 < u8 bytes 4) || bytes.length != 8 + u8 bytes 4) = false := by
    simp [size, short]
  have sound : (u16 bytes (6 + u8 bytes 4) != (crc16 (bytes.take (6 + u8 bytes 4))).toNat) = false := by
    simp [crc]
  unfold Frame.receive
  simp only [sized, sound, hk]
  rfl

/-- Settles O11: R2's check and the fields of a frame that passes it. -/
theorem failedFrameSetsLinkError : Obligations.FailedFrameSetsLinkError := by
  refine ⟨fun bytes s fails => ?_, fun bytes passes => Frame.receive_of_passes passes⟩
  show Host.Outcome.next { s with part := (s.part.receive bytes).arbitrate } = _
  unfold Part.receive
  rw [Frame.receive_of_failsCheck fails]
  rfl

/-! ## Routes (R3 to R5, R10, R15) -/

/-- R3. -/
theorem Part.receive_own {p : Part} {bytes : List Byte} {f : Frame} (accepted : Frame.receive bytes = some f)
    (own : f.src = p.chain.address) : p.receive bytes = p := by
  unfold Part.receive
  rw [accepted]
  exact if_pos own

theorem Part.receive_foreign {p : Part} {bytes : List Byte} {f : Frame} (accepted : Frame.receive bytes = some f)
    (foreign : f.src ≠ p.chain.address) : p.receive bytes = (p.noteGateway f).route f := by
  unfold Part.receive
  rw [accepted]
  exact if_neg foreign

/-- The row of a frame that another node sent. -/
theorem exec_frameArrival_foreign {s : State} {bytes : List Byte} {f : Frame}
    (accepted : Frame.receive bytes = some f) (foreign : f.src ≠ s.part.chain.address) :
    exec (.frameArrival bytes) s = s.leaves ((s.part.noteGateway f).route f) := by
  show Host.Outcome.next { s with part := (s.part.receive bytes).arbitrate } = _
  rw [Part.receive_foreign accepted foreign]
  rfl

/-- Settles O12. -/
theorem ownFrameIsRemoved : Obligations.OwnFrameIsRemoved := by
  intro bytes f s accepted own
  show Host.Outcome.next { s with part := (s.part.receive bytes).arbitrate } = _
  rw [Part.receive_own accepted own]
  rfl

@[simp] theorem Part.markUsed_chain (p : Part) (e : NodeEntry) (seq : Byte) : (p.markUsed e seq).chain = p.chain := by
  unfold Part.markUsed
  dsimp only
  split <;> rfl

@[simp] theorem Part.noteGateway_chain (p : Part) (f : Frame) : (p.noteGateway f).chain = p.chain := by
  unfold Part.noteGateway
  split
  · rfl
  · split <;> simp

/-- R4, R15: an order or a drive goes to the switch-carrying node that its destination names, else as R4 gives. -/
theorem Part.routeOrder_eq (p : Part) (f : Frame) : p.routeOrder f =
    if p.addressOf .contactor = some f.dst then p.raise (.orderRefused f.src f.kind .contactor)
    else if p.addressOf .heater = some f.dst then p.raise (.orderRefused f.src f.kind .heater)
    else if f.dst = p.chain.address then p else p.forward f := by
  unfold Part.routeOrder Part.switchTarget
  split
  · next r named =>
    split at named
    · next contactor => cases named; rw [if_pos contactor]
    · next contactor =>
      split at named
      · next heater => cases named; rw [if_neg contactor, if_pos heater]
      · cases named
  · next named =>
    split at named
    · cases named
    · next contactor =>
      split at named
      · cases named
      · next heater => rw [if_neg contactor, if_neg heater]

/-- R5: with no GATEWAY entry every source is acceptable, and with one its address alone. -/
theorem Part.acceptsFrom_iff (p : Part) (src : Byte) :
    p.acceptsFrom src = true ↔ ∀ e, p.entryOf .gateway = some e → e.address = src := by
  unfold Part.acceptsFrom
  split
  · next absent => simp [absent]
  · next e present => simp [present]

/-- Settles O13, by the frame's kind. -/
theorem acceptedFramesAreRouted : Obligations.AcceptedFramesAreRouted := by
  refine ⟨fun bytes f s accepted foreign => ?_, Part.acceptsFrom_iff⟩
  dsimp only
  rw [exec_frameArrival_foreign accepted foreign]
  congr 1
  unfold Part.route
  rw [Part.noteGateway_chain]
  cases kind : f.kind with
  | command => rfl
  | sample => rfl
  | order => simp only [Part.routeOrder_eq, Part.noteGateway_chain, kind]
  | drive => simp only [Part.routeOrder_eq, Part.noteGateway_chain, kind]
  | answer => rfl
  | notice => rfl

/-! ## The use of a frame (R10, R12, R14) -/

/-- Settles O14: R10's and R12's operations written out. -/
theorem usedFrameMakesEntryLive : Obligations.UsedFrameMakesEntryLive :=
  ⟨fun _ _ => rfl, fun _ _ _ => rfl⟩

/-! ## The intake of the queues (R6, R177, R24) -/

/-- R24: a drive whose function waits nowhere joins the tail. -/
theorem coalesce_of_fresh {q : List Drive} {d : Drive} (fresh : ∀ e ∈ q, e.sameFunction d = false) :
    coalesce q d = q ++ [d] := by
  unfold coalesce
  rw [if_neg]
  simpa using fresh

/-- R24: a drive whose function waits takes the place of the one that waits. -/
theorem coalesce_of_waiting {before behind : List Drive} {d e : Drive}
    (single : singleDrives (before ++ e :: behind)) (same : e.sameFunction d = true) :
    coalesce (before ++ e :: behind) d = before ++ d :: behind := by
  obtain ⟨-, tail, front⟩ := List.pairwise_append.mp single
  have other (x : Drive) (apart : e.sameFunction x = false) : x.sameFunction d = false := by
    rw [Drive.sameFunction_comm, ← Drive.sameFunction_congr same, apart]
  have keeps (l : List Drive) (apart : ∀ x ∈ l, e.sameFunction x = false) :
      l.map (fun x => if x.sameFunction d then d else x) = l := by
    refine (List.map_congr_left fun x hx => ?_).trans l.map_id
    rw [other x (apart x hx)]
    rfl
  have ahead (x : Drive) (hx : x ∈ before) : e.sameFunction x = false := by
    rw [Drive.sameFunction_comm]
    exact front x hx e List.mem_cons_self
  have after := (List.pairwise_cons.mp tail).1
  unfold coalesce
  rw [if_pos (List.any_eq_true.mpr ⟨e, by simp, same⟩), List.map_append, List.map_cons, keeps before ahead,
    keeps behind after, if_pos same]

theorem Part.queueDrive_of_table {p : Part} (table : p.nodes.table ≠ none) (d : Drive) :
    p.queueDrive d = { p with drive := { p.drive with queue := coalesce p.drive.queue d } } := by
  unfold Part.queueDrive Part.hasNodeTable
  rw [if_pos (Option.isSome_iff_ne_none.mpr table)]
  rfl

/-- Settles O15: each queue with and without room. -/
theorem queueIntake : Obligations.QueueIntake := by
  refine ⟨fun p f room => ?_, fun p f full => ?_, fun p f room => ?_, fun p f full place tagged => ?_,
    fun p f full barred => ?_, fun p d absent => ?_, fun p d table fresh => ?_,
    fun p d e before behind table single held same => ?_⟩
  · simp only [Part.forward, Part.modChain, if_pos room]
  · simp only [Part.forward, Part.modChain, if_neg (Nat.not_lt.mpr full)]
  · simp only [Part.enqueueCommand, Part.modMgmt, if_pos room]
  · rw [Part.enqueueCommand, if_neg (Nat.not_lt.mpr full), if_pos ⟨place, tagged⟩]
    rfl
  · rw [Part.enqueueCommand, if_neg (Nat.not_lt.mpr full), if_neg (by omega)]
  · simp [Part.queueDrive, Part.hasNodeTable, absent]
  · rw [Part.queueDrive_of_table table, coalesce_of_fresh fresh]
  · rw [Part.queueDrive_of_table table, held, coalesce_of_waiting (held ▸ single) same]

/-! ## Unusable and duplicate samples (R11) -/

theorem readInlet_eq_none (b : List Byte) :
    readInlet b = none ↔ b.length ≠ 15 ∨ (u8 b 3 ≠ 1 ∧ u8 b 3 ≠ 3) := by
  unfold readInlet
  split <;> simp <;> omega

theorem readPack_eq_none (b : List Byte) : readPack b = none ↔ b.length ≠ 13 ∨ 100 < u8 b 4 := by
  unfold readPack
  split <;> simp <;> omega

theorem readConverter_eq_none (b : List Byte) : readConverter b = none ↔ b.length ≠ 5 ∨ 2 < u8 b 4 := by
  unfold readConverter
  split
  · next sized =>
    generalize u8 b 4 = code
    match code with
    | 0 | 1 | 2 => simp [sized]
    | n + 3 => simp
  · next other => simp [other]

theorem InjectorMode.ofCode_eq_none (code : Nat) : InjectorMode.ofCode code = none ↔ 3 < code := by
  match code with
  | 0 | 1 | 2 | 3 => simp [InjectorMode.ofCode]
  | n + 4 => simp [InjectorMode.ofCode]

theorem readInjector_eq_none (b : List Byte) : readInjector b = none ↔ b.length ≠ 6 ∨ 3 < u8 b 0 := by
  unfold readInjector
  split
  · next sized => simp [InjectorMode.ofCode_eq_none, sized]
  · next other => simp [other]

theorem Part.route_sample {p : Part} {f : Frame} (sample : f.kind = .sample) :
    p.route f = if f.dst = p.chain.address then p.examineSample f else (p.examineSample f).forward f := by
  unfold Part.route
  rw [sample]

/-- R11: an unusable sample, or one with the sequence number of the last, is not used. -/
theorem Part.examineSample_unused {p : Part} {f : Frame} {e : NodeEntry} (known : p.entryAt f.src = some e)
    (unused : readSample e.role f.payload = none ∨ (p.nodes.runtime.get e.role).lastSeq = some f.seq) :
    p.examineSample f = p := by
  unfold Part.examineSample
  rw [known]
  dsimp only
  split
  · rfl
  · next r usable =>
    rcases unused with unusable | duplicate
    · rw [unusable] at usable
      cases usable
    · exact if_pos duplicate

theorem Part.examineSample_used {p : Part} {f : Frame} {e : NodeEntry} {r : Reading}
    (known : p.entryAt f.src = some e) (usable : readSample e.role f.payload = some r)
    (new : (p.nodes.runtime.get e.role).lastSeq ≠ some f.seq) : p.examineSample f = p.useSample e f.seq r := by
  unfold Part.examineSample
  rw [known]
  dsimp only
  rw [usable]
  exact if_neg new

/-- Settles O16: the unusable samples role by role, and what becomes of a sample that is not used. -/
theorem unusableOrDuplicateSampleIsNotUsed : Obligations.UnusableOrDuplicateSampleIsNotUsed := by
  refine ⟨fun b => ⟨?_, ?_, ?_, ?_, ?_, ?_, ?_⟩, fun bytes f e s accepted foreign sample known role quiet => ?_⟩
  · simp [readSample, readInlet_eq_none]
  · simp [readSample, readPack_eq_none]
  · simp [readSample, readHeater]
  · simp [readSample, readCargo]
  · simp [readSample, readConverter_eq_none]
  · simp [readSample, readContactor]
  · simp [readSample, readInjector_eq_none]
  · dsimp only
    rw [exec_frameArrival_foreign accepted foreign, quiet, Part.route_sample sample]
    exact ⟨fun unused => by rw [Part.examineSample_unused known unused],
      fun r usable new => by rw [Part.examineSample_used known usable new]⟩

/-! ## The outbound arbiter (R7, R179, R190, R24) -/

section Arbiter

variable {p : Part}

theorem Part.arbitrate_busy {f : Frame} (busy : p.chain.portB = some f) : p.arbitrate = p := by
  unfold Part.arbitrate
  rw [busy]

variable (idle : p.chain.portB = none)
include idle

theorem Part.arbitrate_drive {d : Drive} {rest : List Drive} (drives : p.drive.queue = d :: rest) :
    p.arbitrate = p.sendDrive d rest := by
  unfold Part.arbitrate
  rw [idle, drives]

theorem Part.arbitrate_forward {f : Frame} {rest : List Frame} (drives : p.drive.queue = [])
    (fwd : p.chain.fwd = f :: rest) : p.arbitrate = p.sendForward f rest := by
  unfold Part.arbitrate
  rw [idle, drives, fwd]

theorem Part.arbitrate_answer {a : Answer} {rest : List Answer} (drives : p.drive.queue = [])
    (fwd : p.chain.fwd = []) (answers : p.mgmt.answers = a :: rest) : p.arbitrate = p.sendAnswer a rest := by
  unfold Part.arbitrate
  rw [idle, drives, fwd, answers]

theorem Part.arbitrate_notice {n : Notice} {rest : List Notice} (drives : p.drive.queue = [])
    (fwd : p.chain.fwd = []) (answers : p.mgmt.answers = []) (notices : p.mgmt.notices = n :: rest) :
    p.arbitrate = p.sendNotice n rest := by
  unfold Part.arbitrate
  rw [idle, drives, fwd, answers, notices]

theorem Part.arbitrate_nothing (drives : p.drive.queue = []) (fwd : p.chain.fwd = []) (answers : p.mgmt.answers = [])
    (notices : p.mgmt.notices = []) : p.arbitrate = p := by
  unfold Part.arbitrate
  rw [idle, drives, fwd, answers, notices]

end Arbiter

/-- Settles O18: the four sources in order, and the frame that each forms. -/
theorem arbiterServesSourcesInOrder : Obligations.ArbiterServesSourcesInOrder := by
  intro p
  refine ⟨fun f busy => Part.arbitrate_busy busy, fun idle => ⟨fun d rest drives => ?_, fun drives =>
    ⟨fun f rest fwd => Part.arbitrate_forward idle drives fwd, fun fwd =>
      ⟨fun a rest answers => ⟨fun short => ?_, fun long => ?_⟩, fun answers => ⟨fun n rest notices => ?_,
        fun notices => Part.arbitrate_nothing idle drives fwd answers notices⟩⟩⟩⟩⟩
  · rw [Part.arbitrate_drive idle drives]
    rfl
  · rw [Part.arbitrate_answer idle drives fwd answers, Part.sendAnswer, if_pos short]
    rfl
  · rw [Part.arbitrate_answer idle drives fwd answers, Part.sendAnswer, if_neg (Nat.not_le.mpr long)]
    rfl
  · rw [Part.arbitrate_notice idle drives fwd answers notices]
    rfl

/-! ## The end of a transmission (R7, R177, R184) -/

theorem Part.endTransmission_eq (p : Part) : p.endTransmission =
    if 8 ≤ p.mgmt.answers.length ∧ (p.modChain fun c => { c with portB := none }).arbitrate.mgmt.answers.length < 8
    then (p.modChain fun c => { c with portB := none }).arbitrate.placeFreed
    else (p.modChain fun c => { c with portB := none }).arbitrate := by
  unfold Part.endTransmission
  simp [Part.answersFull]

theorem Part.takeHead_nil {p : Part} (empty : p.mgmt.commands = []) : p.takeHead = p := by
  simp [Part.takeHead, Part.headName, empty]

theorem Part.takeHead_cons {p : Part} {c : Frame} {rest : List Frame} (head : p.mgmt.commands = c :: rest) :
    p.takeHead = p.takeAs (nameOf c.payload) (workOf (nameOf c.payload)) := by
  simp [Part.takeHead, Part.headName, head]

/-- Settles O19: whether a place came free, and what waits for it. -/
theorem transmissionEndHandsPortBOn : Obligations.TransmissionEndHandsPortBOn := by
  intro s q freed
  have ends : exec .transmissionEnd s = .next { s with part := if freed then q.placeFreed else q } := by
    show Host.Outcome.next { s with part := s.part.endTransmission } = _
    rw [Part.endTransmission_eq]
    rfl
  clear_value q
  rw [ends]
  refine ⟨fun none_ => by rw [if_neg none_], fun place idle => ?_, fun v place held => ?_⟩
  · rw [if_pos place, Part.placeFreed, idle]
    cases head : q.mgmt.commands with
    | nil => simp only [Part.takeHead_nil head]
    | cons c rest => simp only [Part.takeHead_cons head]
  · rw [if_pos place, Part.placeFreed, held]

/-! ## The clamp at departure (R17) -/

/-- The two bytes of a value that fits, read back behind a function byte. -/
theorem u16_of_beBytes {n : Nat} (fits : n < 65536) (b : Byte) (rest : List Byte) :
    u16 (b :: (beBytes 2 n ++ rest)) 1 = n := by
  simp [u16, u8, byteAt, beBytes]
  omega

theorem u16_lt (b : List Byte) (k : Nat) : u16 b k < 65536 := by
  have high := (byteAt b k).isLt
  have low := (byteAt b (k + 1)).isLt
  simp only [u16, u8]
  omega

/-- R17: the value that leaves is the lesser of the order's and the limit. -/
theorem Frame.against_value (f : Frame) (limit : Nat) :
    u16 (f.against limit).payload 1 = min limit (u16 f.payload 1) := by
  have fits := u16_lt f.payload 1
  unfold Frame.against
  split
  · next above =>
    rw [Nat.min_eq_left (Nat.le_of_lt above)]
    exact u16_of_beBytes (Nat.lt_trans above fits) _ _
  · next within => rw [Nat.min_eq_right (Nat.le_of_not_lt within)]

/-- 11.2: what a power order is. -/
theorem Part.ordersTo_iff (p : Part) (f : Frame) (target : Role) : p.ordersTo f target = true ↔
    f.kind = .order ∧ (∃ e, p.entryOf target = some e ∧ e.address = f.dst) ∧ 3 ≤ f.payload.length
      ∧ ((target = .converter ∧ byteAt f.payload 0 = 0x01#8) ∨ (target = .inlet ∧ byteAt f.payload 0 = 0x02#8)) := by
  unfold Part.ordersTo Part.addressOf
  simp only [Bool.and_eq_true, beq_iff_eq, decide_eq_true_eq, Option.map_eq_some_iff, and_assoc]
  cases target <;> simp [clampFunction]

/-- Settles O20: a power order to either target, and any other frame. -/
theorem powerOrderIsClampedAtDeparture : Obligations.PowerOrderIsClampedAtDeparture := by
  refine ⟨fun p f rest => ⟨fun converter => ?_, fun other inlet => ?_, fun other none_ => ?_⟩, Part.ordersTo_iff⟩
  · rw [← Frame.against_value, Part.sendForward, if_pos converter]
    rfl
  · rw [← Frame.against_value, Part.sendForward, if_neg (by simp [other]), if_pos inlet]
    rfl
  · rw [Part.sendForward, if_neg (by simp [other]), if_neg (by simp [none_])]
    rfl

/-! ## The target limits (R16) -/

theorem min_eq_ite_lt (n limit : Nat) : min n limit = if limit < n then limit else n := by
  split <;> omega

theorem Part.livePack_eq_none (p : Part)
    (h : (p.nodes.runtime.get .pack).state ≠ .live ∨ p.nodes.pack = none) : p.livePack = none := by
  unfold Part.livePack Part.live
  rcases h with dead | absent
  · rw [if_neg (by simpa using dead)]
  · rw [absent, ite_self]

theorem Part.livePack_eq_some {p : Part} {r : PackReadings} (live : (p.nodes.runtime.get .pack).state = .live)
    (present : p.nodes.pack = some r) : p.livePack = some r := by
  unfold Part.livePack Part.live
  rw [live, present]
  rfl

/-- Settles O21. -/
theorem targetLimitsFollowDrawLimit : Obligations.TargetLimitsFollowDrawLimit := by
  intro p
  refine ⟨min_eq_ite_lt _ _, fun absent => ?_, fun r live present => ⟨fun zero => ?_, fun volts => ?_⟩⟩
  · rw [Part.inletLimit, p.livePack_eq_none absent]
  · rw [Part.inletLimit, Part.livePack_eq_some live present]
    exact if_pos zero
  · rw [Part.inletLimit, Part.livePack_eq_some live present]
    exact (if_neg volts).trans (min_eq_ite_lt _ _)

/-! ## Rows that are not due (log 2) -/

/-- A row that acts when it is due leaves the state alone when it is not. -/
theorem State.after_when_not_due {s : State} {due : Part → Bool} (f : Part → Part) (idle : due s.part = false) :
    (s.after fun p => p.when (due p) f) = .next s := by
  unfold State.after Part.when
  dsimp only
  rw [idle]
  rfl

theorem Part.deadlinePassed_eq_false {α : Type} {p : Part} {w : Option (Awaiting α)}
    (h : ∀ a, w = some a → p.now < a.deadline) : p.deadlinePassed w = false := by
  unfold Part.deadlinePassed
  split
  · rfl
  · next a => simpa using h a rfl

theorem Part.endReached_eq_false {p : Part} {z : Zone} {st : ZoneState}
    (h : (p.zone z).state ≠ st ∨ ∀ t, (p.zone z).endTime = some t → p.now < t) : p.endReached z st = false := by
  unfold Part.endReached
  rw [Bool.and_eq_false_iff]
  rcases h with other | early
  · exact .inl (by simpa using other)
  · right
    split
    · rfl
    · next t ends => simpa using early t ends

theorem Part.minuteDue_eq_false {p : Part}
    (h : ∀ c, p.meter.clock = some c → c.second < 59 ∨ p.meter.clockPhase < 1000) : p.minuteDue = false := by
  unfold Part.minuteDue
  split
  · rfl
  · next c set =>
    rw [Bool.and_eq_false_iff, decide_eq_false_iff_not, decide_eq_false_iff_not, Nat.not_le, Nat.not_le]
    exact h c set

theorem Part.wakeDue_eq_false {p : Part}
    (h : p.mgmt.partState ≠ .dormant ∨ ∀ t, p.mgmt.wakeAt = some t → p.now < t) : p.wakeDue = false := by
  unfold Part.wakeDue
  rw [Bool.and_eq_false_iff]
  rcases h with awake | early
  · exact .inl (by simpa using awake)
  · right
    split
    · rfl
    · next t ends => simpa using early t ends

/-- Settles O37: each row's own condition fails. -/
theorem notDueHasNoEffect : Obligations.NotDueHasNoEffect := by
  intro s
  refine ⟨fun r idle => ?_, fun b idle => ?_, fun z idle => ?_, fun idle => ?_, fun idle => ?_, fun idle => ?_,
    fun idle => ?_, fun z idle => ?_, fun z idle => ?_, fun idle => ?_, fun idle => ?_, fun idle => ?_⟩
  · exact State.after_when_not_due (due := fun p => p.staleDue r) _ idle
  · exact State.after_when_not_due (due := fun p => p.deadlinePassed (p.branch b).change) _
      (Part.deadlinePassed_eq_false idle)
  · exact State.after_when_not_due (due := fun p => p.deadlinePassed (p.zone z).change) _
      (Part.deadlinePassed_eq_false idle)
  · exact State.after_when_not_due (due := fun p => p.deadlinePassed p.monitor.change) _
      (Part.deadlinePassed_eq_false idle)
  · exact State.after_when_not_due (due := Part.inletGraceDue) _ idle
  · exact State.after_when_not_due (due := Part.unknownGraceDue) _ idle
  · exact State.after_when_not_due (due := Part.durationDue) _ idle
  · exact State.after_when_not_due (due := fun p => p.endReached z .burst) _ (Part.endReached_eq_false idle)
  · exact State.after_when_not_due (due := fun p => p.endReached z .rest) _ (Part.endReached_eq_false idle)
  · exact State.after_when_not_due (due := Part.minuteDue) _ (Part.minuteDue_eq_false idle)
  · exact State.after_when_not_due (due := Part.wakeDue) _ (Part.wakeDue_eq_false idle)
  · exact State.after_when_not_due (due := fun p => p.mgmt.validation.isSome) _
      (Option.isSome_eq_false_iff.mpr (Option.isNone_iff_eq_none.mpr idle))

end Sys2Proof.Machine
end

section
/-! PROOFS. A silent entry goes STALE (O26). -/

namespace Sys2Proof.Machine

/-! ## Sets of states as the rules write them out -/

/-- R20: CONNECTING..SUSPENDED. -/
theorem SessionState.connected_iff (st : SessionState) : st.connected = true ↔
    st = .connecting ∨ st = .preheat ∨ st = .charging ∨ st = .suspended := by
  cases st <;> simp [SessionState.connected]

/-- R82, R89: PREHEAT and CHARGING. -/
theorem SessionState.drawing_iff (st : SessionState) : st.drawing = true ↔ st = .preheat ∨ st = .charging := by
  cases st <;> simp [SessionState.drawing]

/-! ## Staleness (R13) -/

/-- R13: the condition of a staleness expiry. -/
theorem Part.staleDue_of_silent {p : Part} {role : Role} {e : NodeEntry} {since : Nat}
    (entry : p.entryOf role = some e) (live : (p.nodes.runtime.get role).state = .live)
    (timer : (p.nodes.runtime.get role).timer = some since) (silent : e.period * e.staleLimit ≤ p.now - since) :
    p.staleDue role = true := by
  have named : e.role = role := by simpa using List.find?_some entry
  unfold Part.staleDue
  rw [entry]
  simp [Part.silent, named, live, timer, silent]

theorem Part.addressOf_of_entryOf {p : Part} {role : Role} {e : NodeEntry} (entry : p.entryOf role = some e) :
    p.addressOf role = some e.address := by
  rw [Part.addressOf, entry]
  rfl

/-- R13: what going STALE leaves of the Node Table. -/
theorem Part.goStale_nodes (p : Part) (role : Role) : (p.goStale role).nodes = { p.nodes with
    runtime := p.nodes.runtime.set role { p.nodes.runtime.get role with state := .stale, timer := none } } := by
  unfold Part.goStale
  dsimp only
  rw [Part.finish_nodes]
  exact congrArg Outer.nodes (Part.reactStale_outer _ role)

theorem exec_stalenessExpiry_due {s : State} {role : Role} (due : s.part.staleDue role = true) :
    exec (.stalenessExpiry role) s = s.leaves (s.part.goStale role) := by
  show Host.Outcome.next { s with part := s.part.when (s.part.staleDue role) _ } = _
  rw [Part.when, if_pos due]
  rfl

/-- Bursts that end one after the other, as a fold. -/
theorem Part.endBurstsOf_eq_foldl (e : Ending) (zs : List Zone) (p : Part) :
    Part.endBurstsOf e zs p = zs.foldl (fun (q : Part) z => q.endBurst e z) p := by
  induction zs generalizing p with
  | nil => rfl
  | cons z zs ih => exact ih _

/-- R84, R92: the INLET entry is lost to a connected session, or to none. -/
theorem Part.inletLost_cases (p : Part) :
    let connected := p.session.state = .connecting ∨ p.session.state = .preheat ∨ p.session.state = .charging
      ∨ p.session.state = .suspended
    let held := p.addCause .inletStale
    (connected → p.inletLost = { held with session := { held.session with inletGrace := some p.now } })
      ∧ (¬ connected → p.inletLost = p.cutTail) := by
  refine ⟨fun h => ?_, fun h => ?_⟩
  · rw [Part.inletLost, if_pos ((SessionState.connected_iff _).mpr h)]
    rfl
  · rw [Part.inletLost, if_neg (mt (SessionState.connected_iff _).mp h)]

/-- R136, R131: the INJECTOR entry is lost to a judging monitor, or to one that does not judge. -/
theorem Part.injectorLost_cases (p : Part) :
    let judging := p.monitor.state = .settling ∨ p.monitor.state = .normal ∨ p.monitor.state = .warning
    (judging → p.injectorLost = p.enterUnknown .stale)
      ∧ (¬ judging → p.injectorLost = { p with monitor := { p.monitor with latest := none } }) := by
  refine ⟨fun h => ?_, fun h => ?_⟩
  · rcases h with st | st | st <;> rw [Part.injectorLost, st]
  · unfold Part.injectorLost
    split
    · next st => exact absurd (.inl st) h
    · next st => exact absurd (.inr (.inl st)) h
    · next st => exact absurd (.inr (.inr st)) h
    · rfl

/-- Settles O26. -/
theorem stalenessExpiryMakesEntryStale : Obligations.StalenessExpiryMakesEntryStale := by
  refine ⟨fun role e since s => ?_, Part.inletLost_cases, Part.injectorLost_cases,
    fun p e => Part.endBurstsOf_eq_foldl e p.heat.burstOrder p⟩
  intro p left stale entry live timer silent q r
  have went : p.goStale role = r.finish := by
    unfold Part.goStale
    rw [Part.addressOf_of_entryOf entry]
    cases role <;> rfl
  rw [← went]
  exact ⟨exec_stalenessExpiry_due (Part.staleDue_of_silent entry live timer silent), p.goStale_nodes role⟩

end Sys2Proof.Machine
end

section
/-! PROOFS. The end of an event (O25): what it keeps, what it establishes, and its stages one by one. -/

namespace Sys2Proof.Machine

/-! ## What the end of an event keeps -/

/-- The Management Unit but for its notices, read back from what `outer` keeps of it. -/
theorem Management.eq_of_core {m n : Management} (h : m.core = n.core) :
    { m with notices := n.notices, raised := n.raised, noticeLost := n.noticeLost } = n :=
  congrArg (fun c : Management =>
    { c with notices := n.notices, raised := n.raised, noticeLost := n.noticeLost }) h

/-- The six images in force are among what `steady` keeps. -/
theorem Part.imageOf_of_steady {p q : Part} (h : q.steady = p.steady) (t : TableId) : q.imageOf t = p.imageOf t := by
  have nodes : q.nodes = p.nodes := congrArg (fun s => s.outer.nodes) h
  have limit : q.session.table = p.session.table := congrArg Steady.limitTable h
  have budget : q.budget.table = p.budget.table := congrArg Steady.budgetTable h
  have tariff : q.meter.tariff = p.meter.tariff := congrArg Steady.tariff h
  have heat : q.heat.table = p.heat.table := congrArg Steady.heatTable h
  have insulation : q.monitor.table = p.monitor.table := congrArg Steady.insulationTable h
  cases t <;> simp only [Part.imageOf, nodes, limit, budget, tariff, heat, insulation]

theorem Part.kept_of_steady {p q : Part} (h : q.steady = p.steady) :
    q.now = p.now ∧ q.chain = p.chain ∧ q.nodes = p.nodes
      ∧ { q.mgmt with notices := p.mgmt.notices, raised := p.mgmt.raised, noticeLost := p.mgmt.noticeLost } = p.mgmt
      ∧ (∀ t : TableId, q.imageOf t = p.imageOf t)
      ∧ q.meter.clock = p.meter.clock ∧ q.meter.band = p.meter.band
      ∧ (q.meter.balanced ↔ p.meter.balanced)
      ∧ q.heat.manual = p.heat.manual ∧ q.heat.departures = p.heat.departures
      ∧ q.monitor.tripLatch = p.monitor.tripLatch ∧ q.locator.faults = p.locator.faults
      ∧ q.store.areaSize = p.store.areaSize ∧ q.store.borrow = p.store.borrow
      ∧ q.budget.window = p.budget.window := by
  have now : q.now = p.now := congrArg (fun s => s.outer.now) h
  have chain : q.chain = p.chain := congrArg (fun s => s.outer.chain) h
  have nodes : q.nodes = p.nodes := congrArg (fun s => s.outer.nodes) h
  have core : q.mgmt.core = p.mgmt.core := congrArg (fun s => s.outer.core) h
  have balanced : q.meter.balanced = p.meter.balanced := congrArg (fun s => s.outer.balanced) h
  exact ⟨now, chain, nodes, Management.eq_of_core core, Part.imageOf_of_steady h, congrArg Steady.clock h,
    congrArg Steady.band h, iff_of_eq balanced, congrArg Steady.manual h, congrArg Steady.departures h,
    congrArg Steady.tripLatch h, congrArg Steady.faults h, congrArg Steady.areaSize h, congrArg Steady.borrow h,
    congrArg Steady.window h⟩

/-! ## The figures at the end of an event (R55 to R57, R60, R68) -/

/-- What the source and the arbiter's figures are computed from. -/
structure FigureInputs where
  branches : PerBranch BranchEntry
  partState : PartState
  monitor : Monitor
  nodes : NodeTable
  table : Option (Loaded BudgetTable)
  window : List Nat

/-- What the source and the arbiter's figures are computed from, read from the part. -/
def Part.figureInputs (p : Part) : FigureInputs :=
  ⟨p.drive.branches, p.mgmt.partState, p.monitor, p.nodes, p.budget.table, p.budget.window⟩

/-- R68: the overdrawn condition on three figures. -/
def overdrawnAt (source : Source) (available reservation : Nat) : Bool :=
  decide ((source = .ac ∨ source = .dc) ∧ available ≤ reservation)

theorem Budget.overdrawnNow_eq (b : Budget) : b.overdrawnNow = overdrawnAt b.source b.available b.reservation := by
  have names (s t : Source) : (s == t) = decide (s = t) := by cases s <;> cases t <;> rfl
  unfold Budget.overdrawnNow overdrawnAt
  rw [names, names, Bool.decide_and, Bool.decide_or]

/-- The arbiter's figures as the inputs give them, with the overdrawn latch as the figures give it. -/
def Part.figuresNow (p : Part) : Figures :=
  ⟨p.budget.table, p.sourceNow, p.socAboveNow, p.availableOn p.sourceNow, p.reservationOn p.sourceNow,
    overdrawnAt p.sourceNow (p.availableOn p.sourceNow) (p.reservationOn p.sourceNow), p.budget.window⟩

/-- The figures rest on their inputs alone. -/
theorem Part.figuresNow_of_inputs {p q : Part} (h : q.figureInputs = p.figureInputs) : q.figuresNow = p.figuresNow := by
  have branches : q.drive.branches = p.drive.branches := congrArg FigureInputs.branches h
  have partState : q.mgmt.partState = p.mgmt.partState := congrArg FigureInputs.partState h
  have monitor : q.monitor = p.monitor := congrArg FigureInputs.monitor h
  have nodes : q.nodes = p.nodes := congrArg FigureInputs.nodes h
  have table : q.budget.table = p.budget.table := congrArg FigureInputs.table h
  have window : q.budget.window = p.budget.window := congrArg FigureInputs.window h
  have source : q.sourceNow = p.sourceNow := by
    unfold Part.sourceNow Part.inRun Part.tripped Part.branch
    rw [branches, partState, monitor]
  have pack : q.livePack = p.livePack := by
    unfold Part.livePack Part.live
    rw [nodes]
  have inlet : q.liveInlet = p.liveInlet := by
    unfold Part.liveInlet Part.live
    rw [nodes]
  have soc : q.socAboveNow = p.socAboveNow := by simp only [Part.socAboveNow, table, pack]
  have available (s : Source) : q.availableOn s = p.availableOn s := by
    simp only [Part.availableOn, table, soc, inlet]
  have reservation (s : Source) : q.reservationOn s = p.reservationOn s := by
    simp only [Part.reservationOn, table, window]
  unfold Part.figuresNow
  rw [source, soc, available, reservation, table, window]

theorem Part.settleBudget_figures (p : Part) : p.settleBudget.figures = p.figuresNow := by
  rw [p.settleBudget_sets.1, p.checkOverdrawn_figures, Budget.overdrawnNow_eq]
  rfl

/-- The arbiter and the draw limit leave alone what the figures are computed from. -/
theorem Part.settleBudget_settleDraw_inputs (p : Part) :
    p.settleBudget.settleDraw.figureInputs = p.figureInputs := by
  obtain ⟨budget, branches, -, mgmt, monitor⟩ := p.settleBudget.settleDraw_keeps
  have wired := p.settleBudget_wired
  have hbranches : p.settleBudget.drive.branches = p.drive.branches := congrArg Wired.branches wired
  have hstate : p.settleBudget.mgmt.partState = p.mgmt.partState := congrArg Wired.partState wired
  have hmonitor : p.settleBudget.monitor = p.monitor := congrArg Wired.monitor wired
  have steady := p.settleBudget_steady
  have hnodes : p.settleBudget.nodes = p.nodes := congrArg (fun s => s.outer.nodes) steady
  have htable : p.settleBudget.budget.table = p.budget.table := congrArg Steady.budgetTable steady
  have hwindow : p.settleBudget.budget.window = p.budget.window := congrArg Steady.window steady
  simp only [Part.figureInputs, budget, branches, mgmt, monitor, p.settleBudget.settleDraw_sets.2.2, hbranches, hstate,
    hmonitor, hnodes, htable, hwindow]

/-- R55 to R57, R60, R68: the figures at the end of an event are those its own inputs give. -/
theorem Part.finish_figures (p : Part) : p.finish.figures = p.finish.figuresNow := by
  unfold Part.finish
  generalize p.round.round.round.decideBranches.settleHeat = r
  have same : r.settleBudget.settleDraw.figures = r.settleBudget.figures := by
    unfold Part.figures
    rw [r.settleBudget.settleDraw_keeps.1]
  rw [same, r.settleBudget_figures, Part.figuresNow_of_inputs r.settleBudget_settleDraw_inputs]

/-- R55. -/
theorem Part.sourceNow_eq (p : Part) : p.sourceNow =
    (if p.mgmt.partState ≠ .run ∨ p.monitor.state = .tripped then .none
      else if (p.branch .converter).commanded then .ac
      else if (p.branch .dcInlet).commanded then .dc else .pack) := by
  simp [Part.sourceNow, Part.inRun, Part.tripped]

/-- R57. -/
theorem Part.socAboveNow_eq (p : Part) : p.socAboveNow =
    p.budget.table.any (fun t => p.livePack.any fun r => decide (t.table.socFloor ≤ r.soc)) := by
  unfold Part.socAboveNow
  cases p.budget.table <;> cases p.livePack <;> rfl

/-- R56, R57. -/
theorem Part.availableOn_eq (p : Part) (source : Source) : p.availableOn source =
    (match p.budget.table, source with
      | none, _ => 0
      | some _, .none => 0
      | some t, .pack =>
        if p.livePack.any (fun r => decide (t.table.socFloor ≤ r.soc)) then t.table.packHeatAllowance else 0
      | some t, .ac => p.liveInlet.elim 0 fun r =>
        r.phaseCurrent * r.phases * r.lineVoltage * t.table.efficiency / 100000 - t.table.margin
      | some t, .dc => p.liveInlet.elim 0 fun r => r.dcOffer - t.table.margin) := by
  unfold Part.availableOn
  cases table : p.budget.table with
  | none => rfl
  | some t =>
    cases source with
    | none => rfl
    | pack => simp only [Part.socAboveNow_eq, table, Option.any_some]
    | ac => cases p.liveInlet <;> rfl
    | dc => cases p.liveInlet <;> rfl

/-- R60. -/
theorem Part.reservationOn_eq (p : Part) (source : Source) : p.reservationOn source =
    (if source = .ac ∨ source = .dc
      then p.budget.table.elim 0 fun t => p.budget.window.foldl max 0 + t.table.cargoMargin else 0) := by
  unfold Part.reservationOn
  cases source <;> cases p.budget.table <;> rfl

/-! ## Heating at the end of an event (R80, R100) -/

/-- The sources' targets as R100 writes them. -/
theorem Part.targetNow_eq (p : Part) (z : Zone) : p.targetNow z =
    (let zoneTarget := p.heat.table.map fun t => (t.table.zones.get z).target
    let wanted (x : Option Int) := x.elim zoneTarget some
    let window := p.heat.departures.foldl (fun t d => if d.active then higher t (wanted d.target) else t) none
    let manual := p.heat.manual.bind fun m => if m.mask.get z then wanted m.target else none
    higher (higher p.heat.preheat window) manual) := by
  have wanted (x : Option Int) :
      p.targetOr z x = x.elim (p.heat.table.map fun t => (t.table.zones.get z).target) some := by
    cases x with
    | some _ => rfl
    | none => simp [Part.targetOr, Part.zoneRecord, Function.comp_def]
  simp only [Part.targetNow, Part.departureTarget, Part.manualTarget, wanted]
  cases p.heat.manual <;> rfl

/-- The effective targets, the preheat demand and the flag at the end of an event. -/
theorem Part.finish_heat (p : Part) :
    p.finish.heat.demandDue = false
      ∧ p.finish.heat.preheat = (if p.finish.session.state = .preheat then p.finish.session.chargeEnable else none)
      ∧ ∀ z, (p.finish.zone z).effectiveTarget = p.finish.targetNow z := by
  unfold Part.finish
  generalize p.round.round.round.decideBranches = r
  obtain ⟨due, preheat, targets⟩ := r.settleHeat_sets
  obtain ⟨-, budgetAims, -⟩ := r.settleHeat.settleBudget_sets
  obtain ⟨heat, session, nodes⟩ := r.settleHeat.settleBudget.settleDraw_sets
  have aims : r.settleHeat.settleBudget.settleDraw.aims = r.settleHeat.aims := by
    rw [← budgetAims]
    simp only [Part.aims, heat, nodes]
  have kept : r.settleHeat.settleBudget.session = r.session :=
    congrArg Wired.session ((Part.settleBudget_wired _).trans r.settleHeat_wired)
  refine ⟨(congrArg Aims.demandDue aims).trans due, ?_, fun z => ?_⟩
  · rw [session, kept]
    exact (congrArg Aims.preheat aims).trans preheat
  · rw [Part.target_of_aims, Part.targetNow_of_aims aims, aims, ← Part.target_of_aims]
    exact targets z

/-- R62. -/
theorem Part.finish_recomputeDue (p : Part) : p.finish.budget.recomputeDue = false := by
  unfold Part.finish
  rw [(Part.settleDraw_keeps _).1]
  exact (Part.settleBudget_sets _).2.2

/-- The figures and the targets of a part at the end of an event, written out. -/
theorem Part.established_of_settled {q : Part} (figures : q.figures = q.figuresNow)
    (done : q.budget.recomputeDue = false) (demand : q.heat.demandDue = false)
    (preheat : q.heat.preheat = (if q.session.state = .preheat then q.session.chargeEnable else none))
    (targets : ∀ z, (q.zone z).effectiveTarget = q.targetNow z) :
    let b := q.budget
    let largest := b.window.foldl max 0
    let above (t : BudgetTable) := q.livePack.any fun r => decide (t.socFloor ≤ r.soc)
    b.source = (if q.mgmt.partState ≠ .run ∨ q.monitor.state = .tripped then .none
        else if (q.branch .converter).commanded then .ac
        else if (q.branch .dcInlet).commanded then .dc else .pack)
      ∧ b.socAbove = b.table.any (fun t => above t.table)
      ∧ b.available = (match b.table, b.source with
        | none, _ => 0
        | some _, .none => 0
        | some t, .pack => if above t.table then t.table.packHeatAllowance else 0
        | some t, .ac => q.liveInlet.elim 0 fun r =>
          r.phaseCurrent * r.phases * r.lineVoltage * t.table.efficiency / 100000 - t.table.margin
        | some t, .dc => q.liveInlet.elim 0 fun r => r.dcOffer - t.table.margin)
      ∧ b.reservation = (if b.source = .ac ∨ b.source = .dc
        then b.table.elim 0 fun t => largest + t.table.cargoMargin else 0)
      ∧ b.overdrawn = decide ((b.source = .ac ∨ b.source = .dc) ∧ b.available ≤ b.reservation)
      ∧ b.recomputeDue = false ∧ q.heat.demandDue = false
      ∧ q.heat.preheat = (if q.session.state = .preheat then q.session.chargeEnable else none)
      ∧ ∀ z,
        let zoneTarget := q.heat.table.map fun t => (t.table.zones.get z).target
        let wanted (x : Option Int) := x.elim zoneTarget some
        let window := q.heat.departures.foldl (fun t d => if d.active then higher t (wanted d.target) else t) none
        let manual := q.heat.manual.bind fun m => if m.mask.get z then wanted m.target else none
        (q.zone z).effectiveTarget = higher (higher q.heat.preheat window) manual := by
  have source : q.budget.source = q.sourceNow := congrArg Figures.source figures
  have soc : q.budget.socAbove = q.socAboveNow := congrArg Figures.socAbove figures
  have available : q.budget.available = q.availableOn q.sourceNow := congrArg Figures.available figures
  have reservation : q.budget.reservation = q.reservationOn q.sourceNow := congrArg Figures.reservation figures
  have overdrawn : q.budget.overdrawn = overdrawnAt q.sourceNow (q.availableOn q.sourceNow)
    (q.reservationOn q.sourceNow) := congrArg Figures.overdrawn figures
  refine ⟨source.trans q.sourceNow_eq, soc.trans q.socAboveNow_eq, ?_, ?_, ?_, done, demand, preheat,
    fun z => (targets z).trans (q.targetNow_eq z)⟩
  · rw [available, source]
    exact q.availableOn_eq _
  · rw [reservation, source]
    exact q.reservationOn_eq _
  · rw [overdrawn, ← available, ← reservation, ← source]
    rfl

end Sys2Proof.Machine
end

section
namespace Sys2Proof.Machine

/-! ## The branch rule (R21, R23, R25, R26) -/

theorem BranchEntry.decided_closes (e : BranchEntry) (inRun tripped : Bool) (now : Nat) :
    (e.decided inRun tripped now).commanded = e.closes inRun tripped := by
  unfold BranchEntry.decided
  dsimp only
  split
  · next same => exact same.symm
  · rfl

/-- The branch map as the branch rule decides it. -/
def Part.decidedBranches (p : Part) : PerBranch BranchEntry :=
  p.drive.branches.map fun e => e.decided p.inRun p.tripped p.now

/-- The commanded state of one of some branches moves. -/
def Part.moves (p : Part) (bs : List Branch) : Prop := ∃ b ∈ bs, p.shouldClose b ≠ (p.branch b).commanded

theorem Part.decidedBranches_commanded (p : Part) (b : Branch) :
    (p.decidedBranches.get b).commanded = p.shouldClose b := by
  rw [Part.decidedBranches, PerBranch.get_map, BranchEntry.decided_closes]
  rfl

theorem Part.switchSetOf_decided (p : Part) : switchSetOf p.decidedBranches =
    .switchSet (p.shouldClose .main) (p.shouldClose .dcInlet) (p.shouldClose .converter) (p.shouldClose .cargo) := by
  simp only [← Part.decidedBranches_commanded]
  rfl

theorem Part.isolationSetOf_decided (p : Part) : isolationSetOf p.decidedBranches =
    .isolationSet ⟨p.shouldClose .zone1, p.shouldClose .zone2, p.shouldClose .zone3, p.shouldClose .zone4⟩ := by
  simp only [← Part.decidedBranches_commanded]
  rfl

theorem Part.switchSetOf_same_iff (p : Part) : switchSetOf p.decidedBranches = switchSetOf p.drive.branches ↔
    ¬ p.moves [.main, .dcInlet, .converter, .cargo] := by
  rw [Part.switchSetOf_decided]
  simp [switchSetOf, Part.moves, Part.branch, PerBranch.get]

theorem Part.isolationSetOf_same_iff (p : Part) :
    isolationSetOf p.decidedBranches = isolationSetOf p.drive.branches ↔
    ¬ p.moves [.zone1, .zone2, .zone3, .zone4] := by
  rw [Part.isolationSetOf_decided]
  simp [isolationSetOf, Part.moves, Part.branch, PerBranch.get]

/-- The branch map decided, before any drive is queued. -/
def Part.withDecided (p : Part) : Part :=
  { p with drive := { p.drive with branches := p.decidedBranches, safeLine := p.shouldClose .main } }

theorem Part.decideBranches_eq (p : Part) : p.decideBranches =
    let q := if switchSetOf p.decidedBranches = switchSetOf p.drive.branches then p.withDecided
      else p.withDecided.queueDrive (switchSetOf p.decidedBranches)
    if isolationSetOf p.decidedBranches = isolationSetOf p.drive.branches then q
    else q.queueDrive (isolationSetOf p.decidedBranches) := by
  unfold Part.withDecided
  rw [← Part.decidedBranches_commanded]
  rfl

theorem Part.decideBranches_cases (p : Part) :
    let closed (b : Branch) : Bool := ((p.branch b).claimPart || (p.branch b).claimSession) && !(p.branch b).shed
      && !(p.branch b).quarantine && p.mgmt.partState == .run && p.monitor.state != .tripped
    let entry (b : Branch) : BranchEntry := if closed b = (p.branch b).commanded then p.branch b
      else { p.branch b with commanded := closed b, change := some ⟨closed b, p.now + 300⟩ }
    let changes (bs : List Branch) := ∃ b ∈ bs, closed b ≠ (p.branch b).commanded
    let set : Part := { p with drive := { p.drive with
      branches := ⟨entry .main, entry .dcInlet, entry .converter, entry .cargo, entry .zone1, entry .zone2,
        entry .zone3, entry .zone4⟩
      safeLine := closed .main } }
    let switched (q : Part) : Prop :=
      (changes [.main, .dcInlet, .converter, .cargo] → q = set.queueDrive
        (.switchSet (closed .main) (closed .dcInlet) (closed .converter) (closed .cargo)))
        ∧ (¬ changes [.main, .dcInlet, .converter, .cargo] → q = set)
    ∀ q, switched q →
      (changes [.zone1, .zone2, .zone3, .zone4] → p.decideBranches = q.queueDrive
        (.isolationSet ⟨closed .zone1, closed .zone2, closed .zone3, closed .zone4⟩))
        ∧ (¬ changes [.zone1, .zone2, .zone3, .zone4] → p.decideBranches = q) := by
  intro closed entry changes set switched q hq
  have first : q = if switchSetOf p.decidedBranches = switchSetOf p.drive.branches then p.withDecided
      else p.withDecided.queueDrive (switchSetOf p.decidedBranches) := by
    split
    · next same => exact hq.2 (p.switchSetOf_same_iff.mp same)
    · next moved =>
      rw [p.switchSetOf_decided]
      exact hq.1 (Classical.not_not.mp (mt p.switchSetOf_same_iff.mpr moved))
  have whole : p.decideBranches = if isolationSetOf p.decidedBranches = isolationSetOf p.drive.branches then q
      else q.queueDrive (isolationSetOf p.decidedBranches) := by
    rw [first]
    exact p.decideBranches_eq
  refine ⟨fun moved => ?_, fun still => ?_⟩
  · rw [whole, if_neg (mt p.isolationSetOf_same_iff.mp (Classical.not_not.mpr moved)), p.isolationSetOf_decided]
    rfl
  · rw [whole, if_pos (p.isolationSetOf_same_iff.mpr still)]

/-! ## The draw limit and the clamp drives (R82, R18) -/

theorem Part.drawLimitNow_eq (p : Part) : p.drawLimitNow =
    if p.session.state = .preheat ∨ p.session.state = .charging
      then p.budget.chargeGrant + p.budget.heatGrant + p.budget.reservation else 0 := by
  unfold Part.drawLimitNow
  simp only [SessionState.drawing_iff]

theorem Part.clampConverter_eq (p : Part) : p.clampConverter =
    if p.clamp.converter.any (fun last => decide (p.converterLimit < last)) then
      ({ p with clamp := { p.clamp with converter := some p.converterLimit } } : Part).queueDrive
        (.setpoint p.converterLimit)
    else p := by
  unfold Part.clampConverter
  cases p.clamp.converter with
  | none => rfl
  | some last => simp only [Option.any_some, decide_eq_true_eq]; rfl

theorem Part.clampInlet_eq (p : Part) : p.clampInlet =
    if p.clamp.inlet.any (fun last => decide (p.inletLimit < last)) then
      ({ p with clamp := { p.clamp with inlet := some p.inletLimit } } : Part).queueDrive
        (.currentRequest p.inletLimit)
    else p := by
  unfold Part.clampInlet
  cases p.clamp.inlet with
  | none => rfl
  | some last => simp only [Option.any_some, decide_eq_true_eq]; rfl

theorem Part.settleDraw_eq (p : Part) :
    let limited : Part := { p with session := { p.session with
      drawLimit := if p.session.state = .preheat ∨ p.session.state = .charging
        then p.budget.chargeGrant + p.budget.heatGrant + p.budget.reservation else 0 } }
    let power := limited.converterLimit
    let current := limited.inletLimit
    let told := if p.clamp.converter.any (fun last => decide (power < last)) then
        ({ limited with clamp := { limited.clamp with converter := some power } } : Part).queueDrive
          (.setpoint power)
      else limited
    p.settleDraw = if p.clamp.inlet.any (fun last => decide (current < last)) then
        ({ told with clamp := { told.clamp with inlet := some current } } : Part).queueDrive
          (.currentRequest current)
      else told := by
  intro limited power current told
  have start : p.modSession (fun s => { s with drawLimit := p.drawLimitNow }) = limited := by
    rw [p.drawLimitNow_eq]
    rfl
  have converter : limited.clampConverter = told := limited.clampConverter_eq
  obtain ⟨limits, -, -, -, -, inlet, -⟩ := limited.clampConverter_leaves
  rw [converter] at limits inlet
  have same : told.inletLimit = current := Part.inletLimit_of_limitsFrom limits
  have kept : told.clamp.inlet = p.clamp.inlet := inlet
  unfold Part.settleDraw
  rw [start, converter, told.clampInlet_eq, same, kept]

/-! ## Waiting for the plug (R76 to R78, R90) -/

theorem Part.plugWait_elsewhere (p : Part) (h : p.session.state ≠ .plugWait) : p.plugWait = p := by
  unfold Part.plugWait
  split
  · next waits _ => exact absurd waits h
  · rfl

/-- The set of suspension causes is empty. -/
theorem SuspensionCauses.isEmpty_iff (c : SuspensionCauses) : c.isEmpty = true ↔ c = ⟨false, false, false, false⟩ := by
  obtain ⟨a, b, d, e⟩ := c
  simp [SuspensionCauses.isEmpty, and_assoc]

/-- R76: a kind expected that the plug's kind does not meet. -/
theorem Kind.accepts_eq_false_iff (k : Kind) (a : ChargeKind) :
    k.accepts a = false ↔ (k = .ac ∧ a = .dc) ∨ (k = .dc ∧ a = .ac) := by
  cases k <;> cases a <;> simp [Kind.accepts]

/-- R76: the conditions on the monitor and the Locator. -/
theorem Part.monitorReady_iff (p : Part) : p.monitorReady = true ↔
    p.locator.active = false ∧ (p.monitor.state = .normal ∨ p.monitor.state = .warning) := by
  simp [Part.monitorReady, and_comm]

theorem ChargeKind.branch_eq (k : ChargeKind) : k.branch = if k = .ac then .converter else .dcInlet := by
  cases k <;> rfl

section PlugWait

variable {p : Part} {k : Kind} (waits : p.session.state = .plugWait) (expects : p.session.kindExpected = some k)
include waits expects

theorem Part.plugWait_unplugged (lost : p.liveInlet = none) :
    p.plugWait = if p.noFreeInlet k then p.terminate .quarantined else p := by
  unfold Part.plugWait
  rw [waits, expects]
  dsimp only
  rw [lost]

theorem Part.plugWait_live {r : InletReadings} (live : p.liveInlet = some r) : p.plugWait =
    if r.plugPresent && !k.accepts r.kind then p.terminate .wrongInlet
    else if (r.plugPresent && (p.branch r.kind.branch).quarantine) || p.noFreeInlet k then
      p.terminate .quarantined
    else if r.plugPresent && r.ready && p.session.causes.isEmpty && p.monitorReady then p.enterConnecting r.kind
    else p := by
  unfold Part.plugWait
  rw [waits, expects]
  dsimp only
  rw [live]

end PlugWait

theorem Part.plugWait_cases : ∀ (p : Part) (k : Kind), p.session.state = .plugWait →
    p.session.kindExpected = some k →
    let ac := (p.branch .converter).quarantine
    let dc := (p.branch .dcInlet).quarantine
    let shut := match k with
      | .ac => ac
      | .dc => dc
      | .any => ac && dc
    let ready := p.session.causes = ⟨false, false, false, false⟩ ∧ p.locator.active = false
      ∧ (p.monitor.state = .normal ∨ p.monitor.state = .warning)
    (p.liveInlet = none → p.plugWait = if shut then p.terminate .quarantined else p)
      ∧ ∀ r, p.liveInlet = some r →
        let wrong := (k = .ac ∧ r.kind = .dc) ∨ (k = .dc ∧ r.kind = .ac)
        let gone := (p.branch (if r.kind = .ac then .converter else .dcInlet)).quarantine
        (r.plugPresent = true → wrong → p.plugWait = p.terminate .wrongInlet)
          ∧ (¬ (r.plugPresent = true ∧ wrong) →
            ((r.plugPresent = true ∧ gone = true) ∨ shut = true → p.plugWait = p.terminate .quarantined)
              ∧ (¬ ((r.plugPresent = true ∧ gone = true) ∨ shut = true) →
                (r.plugPresent = true → r.ready = true → ready → p.plugWait = p.enterConnecting r.kind)
                  ∧ (¬ (r.plugPresent = true ∧ r.ready = true ∧ ready) → p.plugWait = p))) := by
  intro p k waits expects ac dc shut ready
  have barred : p.noFreeInlet k = shut := by cases k <;> rfl
  have readyIff : (p.session.causes.isEmpty && p.monitorReady) = true ↔ ready := by
    rw [Bool.and_eq_true, SuspensionCauses.isEmpty_iff, Part.monitorReady_iff]
  refine ⟨fun lost => by rw [Part.plugWait_unplugged waits expects lost, barred], fun r live => ?_⟩
  intro wrong gone
  have wrongIff : (r.plugPresent && !k.accepts r.kind) = true ↔ r.plugPresent = true ∧ wrong := by
    rw [Bool.and_eq_true, Bool.not_eq_true', Kind.accepts_eq_false_iff]
  have goneIff : ((r.plugPresent && (p.branch r.kind.branch).quarantine) || p.noFreeInlet k) = true ↔
      (r.plugPresent = true ∧ gone = true) ∨ shut = true := by
    rw [Bool.or_eq_true, Bool.and_eq_true, barred, ChargeKind.branch_eq]
  have goesIff : (r.plugPresent && r.ready && p.session.causes.isEmpty && p.monitorReady) = true ↔
      r.plugPresent = true ∧ r.ready = true ∧ ready := by
    rw [Bool.and_assoc, Bool.and_assoc, Bool.and_eq_true, Bool.and_eq_true, readyIff]
  rw [Part.plugWait_live waits expects live]
  refine ⟨fun plug isWrong => if_pos (wrongIff.mpr ⟨plug, isWrong⟩), fun right => ?_⟩
  rw [if_neg (mt wrongIff.mp right)]
  refine ⟨fun isGone => if_pos (goneIff.mpr isGone), fun free => ?_⟩
  rw [if_neg (mt goneIff.mp free)]
  exact ⟨fun plug rdy conditions => if_pos (goesIff.mpr ⟨plug, rdy, conditions⟩), fun holds => if_neg (mt goesIff.mp holds)⟩

theorem Part.enterConnecting_eq (p : Part) (k : ChargeKind) :
    let named : Part := { p with
      session := { p.session with kindActual := some k, state := .connecting }
      store := { p.store with opened := p.store.opened.map fun r => { r with kind := k.toKind } } }
    let told := named.raise (.sessionState p.session.recordNumber p.session.state .connecting p.session.causes none)
    let claimed := told.modBranch (if k = .ac then .converter else .dcInlet) fun e => { e with claimSession := true }
    p.enterConnecting k = if k = .ac ∧ (p.nodes.runtime.get .converter).state = .live
      ∧ p.nodes.converter = some .fault then claimed.terminate .converter else claimed := by
  intro named told claimed
  have start : ((((p.modSession fun s => { s with kindActual := some k }).modRecord
      fun r => { r with kind := k.toKind }).enterSession .connecting).claimInlet k) = claimed := by
    unfold Part.claimInlet
    rw [ChargeKind.branch_eq]
    rfl
  have fault : claimed.converterFault = true ↔ k = .ac ∧ (p.nodes.runtime.get .converter).state = .live
      ∧ p.nodes.converter = some .fault := by
    have kind : claimed.session.kindActual = some k := rfl
    have nodes : claimed.nodes = p.nodes := rfl
    simp [Part.converterFault, Part.live, kind, nodes, and_assoc]
  unfold Part.enterConnecting
  dsimp only
  rw [start]
  simp only [fault]

/-! ## The context in force (R126, R124, R128) -/

theorem Part.contextNow_eq (p : Part) :
    let closed (b : Branch) := ((p.branch b).claimPart || (p.branch b).claimSession) && !(p.branch b).quarantine
      && p.mgmt.partState == .run && p.monitor.state != .tripped
    p.contextNow = if closed .converter then Context.ac
      else if closed .dcInlet then
        if p.nodes.inlet.any fun r => r.monitorActive then .dcListen else .dcActive
      else .parked := by
  intro closed
  have charger : p.chargerMonitorActive = p.nodes.inlet.any fun r => r.monitorActive := by
    unfold Part.chargerMonitorActive
    cases p.nodes.inlet <;> rfl
  unfold Part.contextNow
  rw [charger]
  rfl

theorem Context.mode_eq (c : Context) : c.mode = if c = .dcListen then .listen else .active := by
  cases c <;> rfl

/-- R124: the commanded mode of a state in a context. -/
theorem commandedMode_eq (st : MonitorState) (c : Context) : commandedMode st c =
    match st with
    | .off => InjectorMode.off
    | .checking => .selfcheck
    | _ => if c = .dcListen then .listen else .active := by
  cases st with
  | off | checking => rfl
  | settling | normal | warning | tripped | unknown | faulty => exact c.mode_eq

theorem Part.syncMode_eq (p : Part) : p.syncMode =
    let mode := commandedMode p.monitor.state p.monitor.context
    if mode = p.monitor.mode then p
    else ({ p with monitor := { p.monitor with
      mode := mode, latest := none, change := some ⟨mode, p.now + 300⟩ } } : Part).queueDrive (.injectorMode mode) :=
  rfl

/-- R126: the new context in force, with the mode that follows it. -/
def Part.intoContext (p : Part) (c : Context) : Part := (p.modMonitor fun m => { m with context := c }).syncMode

theorem Part.examineContext_same {p : Part} (same : p.contextNow = p.monitor.context) : p.examineContext = p :=
  if_pos same

theorem Part.examineContext_judging {p : Part} (moved : p.contextNow ≠ p.monitor.context)
    (judging : p.monitor.state = .settling ∨ p.monitor.state = .normal ∨ p.monitor.state = .warning) :
    p.examineContext = ((p.intoContext p.contextNow).abandon .context).enterSettling := by
  refine (if_neg moved).trans ?_
  rcases judging with st | st | st <;> rw [st] <;> rfl

theorem Part.examineContext_other {p : Part} (moved : p.contextNow ≠ p.monitor.context)
    (other : ¬ (p.monitor.state = .settling ∨ p.monitor.state = .normal ∨ p.monitor.state = .warning)) :
    p.examineContext = p.intoContext p.contextNow := by
  refine (if_neg moved).trans ?_
  cases st : p.monitor.state with
  | settling => exact absurd (.inl st) other
  | normal => exact absurd (.inr (.inl st)) other
  | warning => exact absurd (.inr (.inr st)) other
  | off | checking | tripped | unknown | faulty => rfl

theorem Part.examineContext_cases (p : Part) :
    let closed (b : Branch) := ((p.branch b).claimPart || (p.branch b).claimSession) && !(p.branch b).quarantine
      && p.mgmt.partState == .run && p.monitor.state != .tripped
    let c := if closed .converter then Context.ac
      else if closed .dcInlet then
        if p.nodes.inlet.any fun r => r.monitorActive then .dcListen else .dcActive
      else .parked
    let mode := match p.monitor.state with
      | .off => InjectorMode.off
      | .checking => .selfcheck
      | _ => if c = .dcListen then .listen else .active
    let moved : Part := { p with monitor := { p.monitor with context := c } }
    let led := if mode = p.monitor.mode then moved
      else ({ moved with monitor := { moved.monitor with
        mode := mode, latest := none, change := some ⟨mode, p.now + 300⟩ } } : Part).queueDrive (.injectorMode mode)
    p.examineContext =
      if c = p.monitor.context then p
      else if p.monitor.state = .settling ∨ p.monitor.state = .normal ∨ p.monitor.state = .warning then
        (led.abandon .context).enterSettling
      else led := by
  intro closed c mode moved led
  have context : p.contextNow = c := p.contextNow_eq
  have synced : p.intoContext p.contextNow = led := by
    have modes : commandedMode p.monitor.state c = mode := commandedMode_eq _ _
    rw [context]
    show moved.syncMode = led
    rw [Part.syncMode_eq]
    show (if commandedMode p.monitor.state c = p.monitor.mode then _ else _) = _
    rw [modes]
  by_cases same : c = p.monitor.context
  · rw [if_pos same, Part.examineContext_same (context.trans same)]
  · rw [if_neg same]
    split
    · next judging => rw [Part.examineContext_judging (context.symm ▸ same) judging, synced]
    · next other => rw [Part.examineContext_other (context.symm ▸ same) other, synced]

/-! ## Heating (R80, R100, R101) -/

theorem Part.settleHeat_cases (p : Part) :
    let placed : Part := { p with heat := { p.heat with
      preheat := if p.session.state = .preheat then p.session.chargeEnable else none } }
    let aim (z : Zone) := placed.targetNow z
    let zone (z : Zone) : ZoneContext := { p.zone z with effectiveTarget := aim z }
    let aimed : Part := { placed with heat := { placed.heat with
      zones := ⟨zone .z1, zone .z2, zone .z3, zone .z4⟩, demandDue := false } }
    let due := p.heat.demandDue = true ∨ ∃ z, (p.zone z).effectiveTarget ≠ aim z
    (due → p.settleHeat = aimed.evalDemand) ∧ (¬ due → p.settleHeat = aimed) := by
  intro placed aim zone aimed due
  have moved : placed.targetsMove = true ↔ ∃ z, (p.zone z).effectiveTarget ≠ aim z := by
    unfold Part.targetsMove
    simp only [List.any_eq_true, decide_eq_true_eq]
    exact ⟨fun ⟨z, _, h⟩ => ⟨z, h⟩, fun ⟨z, h⟩ => ⟨z, by cases z <;> simp [allZones], h⟩⟩
  have whole : p.settleHeat = if (p.heat.demandDue || placed.targetsMove) = true then aimed.evalDemand else aimed := rfl
  have dueIff : (p.heat.demandDue || placed.targetsMove) = true ↔ due := by rw [Bool.or_eq_true, moved]
  rw [whole]
  exact ⟨fun h => if_pos (dueIff.mpr h), fun h => if_neg (mt dueIff.mp h)⟩

end Sys2Proof.Machine
end

section
namespace Sys2Proof.Machine

/-! ## Demand (R101 to R103) -/

/-- R103: where a zone goes when its demand flag takes a value. -/
def ZoneState.onDemand (st : ZoneState) (flag : Bool) : ZoneState :=
  if st = .off ∧ flag = true then .waiting else if st = .waiting ∧ flag = false then .off else st

/-- R102, R103: what a zone's demand flag does to the wait list. -/
def waitListOn (st : ZoneState) (flag : Bool) (waiting : List Zone) (z : Zone) : List Zone :=
  if st = .off ∧ flag = true then waiting ++ [z] else if st = .waiting ∧ flag = false then waiting.erase z else waiting

/-- R103: what the evaluation of one zone does to it. -/
theorem Part.setDemand_zone_same (p : Part) (z : Zone) (flag : Bool) :
    ((p.setDemand z flag).zone z).demand = flag
      ∧ ((p.setDemand z flag).zone z).state = (p.zone z).state.onDemand flag := by
  unfold Part.setDemand
  cases st : (p.zone z).state <;> rw [Part.zone] at st <;> cases flag <;>
    simp [Part.zone, Part.enterWaiting, Part.leaveWaiting, ZoneState.onDemand, st]

theorem Part.setDemand_zone_other (p : Part) (z y : Zone) (flag : Bool) (h : y ≠ z) :
    (p.setDemand z flag).zone y = p.zone y := by
  unfold Part.setDemand
  cases (p.zone z).state <;> cases flag <;>
    simp [Part.zone, Part.enterWaiting, Part.leaveWaiting, PerZone.get_set_other _ _ _ _ h]

theorem Part.setDemand_waitList (p : Part) (z : Zone) (flag : Bool) :
    (p.setDemand z flag).heat.waitList = waitListOn (p.zone z).state flag p.heat.waitList z := by
  unfold Part.setDemand
  cases (p.zone z).state <;> cases flag <;> simp [Part.enterWaiting, Part.leaveWaiting, waitListOn]

/-- R101, R103: the evaluation gives each zone its flag, judged before any zone moves, and moves it. -/
theorem Part.evalDemand_zone (p : Part) (z : Zone) :
    (p.evalDemand.zone z).demand = p.demandNow z
      ∧ (p.evalDemand.zone z).state = (p.zone z).state.onDemand (p.demandNow z) := by
  have own (q : Part) (flag : Bool) (h : q.zone z = p.zone z) : ((q.setDemand z flag).zone z).demand = flag
      ∧ ((q.setDemand z flag).zone z).state = (p.zone z).state.onDemand flag := by
    rw [← h]
    exact q.setDemand_zone_same z flag
  have other (q : Part) (y : Zone) (flag : Bool) (h : z ≠ y) : (q.setDemand y flag).zone z = q.zone z :=
    q.setDemand_zone_other y z flag h
  unfold Part.evalDemand
  cases z with
  | z1 =>
    rw [other _ .z4 _ (by decide), other _ .z3 _ (by decide), other _ .z2 _ (by decide)]
    exact own p _ rfl
  | z2 =>
    rw [other _ .z4 _ (by decide), other _ .z3 _ (by decide)]
    exact own _ _ (other p .z1 _ (by decide))
  | z3 =>
    rw [other _ .z4 _ (by decide)]
    exact own _ _ (by rw [other _ .z2 _ (by decide), other _ .z1 _ (by decide)])
  | z4 => exact own _ _ (by rw [other _ .z3 _ (by decide), other _ .z2 _ (by decide), other _ .z1 _ (by decide)])

/-- R102: the zones join and leave the wait list in ascending zone number. -/
theorem Part.evalDemand_waitList (p : Part) : p.evalDemand.heat.waitList =
    [Zone.z1, .z2, .z3, .z4].foldl (fun w z => waitListOn (p.zone z).state (p.demandNow z) w z) p.heat.waitList := by
  have other (q : Part) (z y : Zone) (flag : Bool) (h : z ≠ y) : (q.setDemand y flag).zone z = q.zone z :=
    q.setDemand_zone_other y z flag h
  unfold Part.evalDemand
  simp only [Part.setDemand_waitList, List.foldl_cons, List.foldl_nil]
  rw [other _ .z4 .z3 _ (by decide), other _ .z4 .z2 _ (by decide), other _ .z4 .z1 _ (by decide),
    other _ .z3 .z2 _ (by decide), other _ .z3 .z1 _ (by decide), other _ .z2 .z1 _ (by decide)]

theorem MonitorState.holdsDemand_iff (st : MonitorState) : st.holdsDemand = true ↔
    st = .tripped ∨ st = .unknown ∨ st = .faulty ∨ st = .checking := by
  cases st <;> simp [MonitorState.holdsDemand]

/-- R101: what holds the demand of every zone. -/
def Part.demandHeld (p : Part) : Prop :=
  p.mgmt.partState ≠ .run ∨ (p.nodes.runtime.get .heater).state ≠ .live ∨ p.locator.active = true
    ∨ p.monitor.state = .tripped ∨ p.monitor.state = .unknown ∨ p.monitor.state = .faulty
    ∨ p.monitor.state = .checking

/-- R101: the gates of a zone's demand, as the evaluation tests them. -/
theorem Part.demandGates_iff (p : Part) (st : ZoneState) (cool : Prop) [Decidable cool] :
    (p.inRun && st != .quarantined && p.live .heater && !p.monitor.state.holdsDemand && !p.locator.active
      && decide cool) = true ↔ ¬ p.demandHeld ∧ st ≠ .quarantined ∧ cool := by
  have monitor := MonitorState.holdsDemand_iff p.monitor.state
  simp only [Bool.and_eq_true, Bool.not_eq_true', ← Bool.not_eq_true, monitor, Part.inRun, Part.live, beq_iff_eq,
    bne_iff_ne, decide_eq_true_eq, Part.demandHeld, ne_eq, not_or, Classical.not_not]
  constructor
  · rintro ⟨⟨⟨⟨⟨run, serving⟩, live⟩, judged⟩, idle⟩, cold⟩
    exact ⟨⟨run, live, idle, judged⟩, serving, cold⟩
  · rintro ⟨⟨run, live, idle, judged⟩, serving, cold⟩
    exact ⟨⟨⟨⟨⟨run, serving⟩, live⟩, judged⟩, idle⟩, cold⟩

theorem Part.demandNow_held {p : Part} {z : Zone} (h : p.demandHeld ∨ (p.zone z).state = .quarantined
    ∨ p.livePack = none ∨ (p.zone z).effectiveTarget = none ∨ p.heat.table = none) : p.demandNow z = false := by
  unfold Part.demandNow
  dsimp only
  split
  · next r target rec pack aim zone =>
    rw [if_neg]
    rw [Part.demandGates_iff]
    rintro ⟨free, serving, -⟩
    rcases h with held | quarantined | absent | absent | absent
    · exact free held
    · exact serving quarantined
    · rw [absent] at pack; cases pack
    · rw [absent] at aim; cases aim
    · rw [Part.zoneRecord, absent] at zone; cases zone
  · rfl

theorem Part.demandNow_free {p : Part} {z : Zone} {r : PackReadings} {target : Int} {t : Loaded HeatTable}
    (free : ¬ p.demandHeld) (serving : (p.zone z).state ≠ .quarantined) (pack : p.livePack = some r)
    (aim : (p.zone z).effectiveTarget = some target) (table : p.heat.table = some t) :
    p.demandNow z = if (t.table.zones.get z).ceiling ≤ (r.temps.get z).high then false
      else if (r.temps.get z).low < target - (t.table.zones.get z).hysteresis then true
      else if target ≤ (r.temps.get z).low then false else (p.zone z).demand := by
  have zone : p.zoneRecord z = some (t.table.zones.get z) := by
    rw [Part.zoneRecord, table]
    rfl
  unfold Part.demandNow
  dsimp only
  rw [pack, aim, zone]
  dsimp only
  by_cases hot : (t.table.zones.get z).ceiling ≤ (r.temps.get z).high
  · rw [if_pos hot, if_neg (mt (Part.demandGates_iff _ _ _).mp fun ⟨_, _, cool⟩ => absurd hot (Int.not_le.mpr cool))]
  · rw [if_neg hot, if_pos ((Part.demandGates_iff _ _ _).mpr ⟨free, serving, Int.not_le.mp hot⟩)]

theorem Part.evalDemand_cases (p : Part) :
    let q := p.evalDemand
    let held := p.mgmt.partState ≠ .run ∨ (p.nodes.runtime.get .heater).state ≠ .live ∨ p.locator.active = true
      ∨ p.monitor.state = .tripped ∨ p.monitor.state = .unknown ∨ p.monitor.state = .faulty
      ∨ p.monitor.state = .checking
    (∀ z,
      let c := p.zone z
      (held ∨ c.state = .quarantined ∨ p.livePack = none ∨ c.effectiveTarget = none ∨ p.heat.table = none →
        (q.zone z).demand = false)
        ∧ (∀ (r : PackReadings) (target : Int) (t : Loaded HeatTable), ¬ held → c.state ≠ .quarantined →
          p.livePack = some r → c.effectiveTarget = some target → p.heat.table = some t →
          let x := r.temps.get z
          let k := t.table.zones.get z
          (q.zone z).demand = if k.ceiling ≤ x.high then false
            else if x.low < target - k.hysteresis then true
            else if target ≤ x.low then false else c.demand)
        ∧ (q.zone z).state = (if c.state = .off ∧ (q.zone z).demand = true then .waiting
          else if c.state = .waiting ∧ (q.zone z).demand = false then .off else c.state))
      ∧ q.heat.waitList = [Zone.z1, .z2, .z3, .z4].foldl (fun w z =>
        if (p.zone z).state = .off ∧ (q.zone z).demand = true then w ++ [z]
        else if (p.zone z).state = .waiting ∧ (q.zone z).demand = false then w.erase z else w) p.heat.waitList := by
  intro q held
  have flag (z : Zone) : (q.zone z).demand = p.demandNow z := (p.evalDemand_zone z).1
  refine ⟨fun z => ?_, ?_⟩
  · intro c
    rw [flag z]
    exact ⟨Part.demandNow_held, fun r target t => Part.demandNow_free, (p.evalDemand_zone z).2⟩
  · simp only [flag]
    exact p.evalDemand_waitList

/-- Settles O25: what the end of an event keeps, what it establishes, and each of its stages. -/
theorem eventEndKeeps : Obligations.EventEndKeeps :=
  ⟨fun p => Part.kept_of_steady p.finish_steady,
    fun p => Part.established_of_settled p.finish_figures p.finish_recomputeDue p.finish_heat.1 p.finish_heat.2.1
      p.finish_heat.2.2,
    fun _ => rfl, Part.decideBranches_cases, Part.settleDraw_eq, Part.plugWait_elsewhere, Part.plugWait_cases,
    Part.enterConnecting_eq, Part.examineContext_cases, Part.settleHeat_cases, Part.evalDemand_cases⟩

end Sys2Proof.Machine
end

section
/-! PROOFS. A used sample (O17): the Node Table it leaves, and what each role's readings do. -/

namespace Sys2Proof.Machine

/-! ## The Node Table and what a sample's use leaves alone (R12, R14) -/

theorem Part.nodes_of_outer {p q : Part} (h : q.outer = p.outer) : q.nodes = p.nodes := congrArg Outer.nodes h

/-- R12: the entry's runtime is replaced; the notice of it leaves the table alone. -/
theorem Part.markUsed_nodes (p : Part) (e : NodeEntry) (seq : Byte) : (p.markUsed e seq).nodes =
    { p.nodes with runtime := p.nodes.runtime.set e.role (p.usedNow seq) } := by
  unfold Part.markUsed
  dsimp only
  split
  · rfl
  · exact Part.nodes_of_outer (Part.raise_outer _ _)

/-- Before the readings act, the use of a sample has touched the Node Table and the notices alone. -/
theorem Part.markUsed_setReading_keeps (p : Part) (e : NodeEntry) (seq : Byte) (r : Reading) :
    let q := (p.markUsed e seq).setReading r
    q.session = p.session ∧ q.mgmt.partState = p.mgmt.partState := by
  have marked : (p.markUsed e seq).session = p.session ∧ (p.markUsed e seq).mgmt.core = p.mgmt.core := by
    unfold Part.markUsed
    dsimp only
    split
    · exact ⟨rfl, rfl⟩
    · exact ⟨rfl, Part.raise_core _ _⟩
  exact ⟨marked.1, show (p.markUsed e seq).mgmt.core.partState = p.mgmt.core.partState by rw [marked.2]⟩

/-- R175: an INLET sample wakes the part in DORMANT alone, and then when it shows the plug. -/
theorem Part.useInlet_eq (p : Part) (e : NodeEntry) (x : InletReadings) : p.useInlet e x =
    if p.mgmt.partState = .dormant ∧ x.plugPresent = true then ((p.meterInlet e x).inletReturns x).wake .plug
    else (p.meterInlet e x).inletReturns x := by
  simp [Part.useInlet]

theorem Part.consume_outer_of_asleep (p : Part) (e : NodeEntry) (r : Reading) (returned fresh : Bool)
    (quiet : p.mgmt.partState = .dormant → ∀ x, r = .inlet x → x.plugPresent = false) :
    (p.consume e r returned fresh).outer = p.outer := by
  cases r with
  | inlet x =>
    have noWake : ¬ (p.mgmt.partState = .dormant ∧ x.plugPresent = true) := fun ⟨asleep, plug⟩ => by
      rw [quiet asleep x rfl] at plug
      cases plug
    rw [Part.consume, Part.useInlet_eq, if_neg noWake]
    simp
  | pack x => exact p.usePack_outer
  | heater x => exact p.useHeater_outer e x fresh
  | cargo x => exact p.useCargo_outer e x
  | converter x => exact p.useConverter_outer x
  | contactor x => exact p.takeSwitches_outer _
  | injector x => exact p.takeInjector_outer x returned

theorem Part.useSample_nodes : ∀ (e : NodeEntry) (seq : Byte) (r : Reading) (p : Part),
    (p.mgmt.partState = .dormant → ∀ x, r = .inlet x → x.plugPresent = false) →
    (p.useSample e seq r).nodes =
      let timer := if p.mgmt.partState = .dormant then none else some p.now
      let n : NodeTable := { p.nodes with
        runtime := p.nodes.runtime.set e.role ⟨.live, some seq, some p.now, timer⟩ }
      match r with
      | .inlet x => { n with inlet := some x }
      | .pack x => { n with pack := some x }
      | .heater x => { n with heater := some x }
      | .cargo x => { n with cargo := some x }
      | .converter x => { n with converter := some x }
      | .contactor x => { n with contactor := some x }
      | .injector x => { n with injector := some x } := by
  intro e seq r p quiet
  have state := (p.markUsed_setReading_keeps e seq r).2
  have used := Part.nodes_of_outer (Part.consume_outer_of_asleep ((p.markUsed e seq).setReading r) e r
    ((p.nodes.runtime.get e.role).state == .stale) ((p.nodes.runtime.get e.role).state != .live)
    fun asleep => quiet (state ▸ asleep))
  unfold Part.useSample
  dsimp only
  rw [Part.finish_nodes, used, Part.setReading, Part.modNodes_nodes, Part.markUsed_nodes]
  cases r <;> rfl

/-! ## What each role's readings do -/

/-- R72, R81, R89, R108: the HOT test reads the pack's latest reading, in burst order. -/
theorem Part.hotZones_eq {p : Part} {x : PackReadings} (reading : p.nodes.pack = some x) : p.hotZones =
    p.heat.burstOrder.filter fun z =>
      p.heat.table.any fun t => decide ((t.table.zones.get z).ceiling ≤ (x.temps.get z).high) := by
  unfold Part.hotZones Part.zoneRecord
  rw [reading]
  cases p.heat.table <;> rfl

theorem Part.usePack_eq {p : Part} {x : PackReadings} (reading : p.nodes.pack = some x) :
    let banded : Part := { p with session := { p.session with bandPower := p.bandPowerNow } }
    let moved := banded.moveByBand.checkFull
    let cooled := (moved.heat.burstOrder.filter fun z =>
      moved.heat.table.any fun t => decide ((t.table.zones.get z).ceiling ≤ (x.temps.get z).high)).foldl
        (fun (a : Part) z => a.endBurst .hot z) moved
    p.usePack = { cooled with heat := { cooled.heat with demandDue := true } } := by
  intro banded moved cooled
  have kept : moved.nodes = p.nodes :=
    Part.nodes_of_outer ((Part.checkFull_outer _).trans (Part.moveByBand_outer banded))
  have hot := Part.hotZones_eq (kept ▸ reading : moved.nodes.pack = some x)
  show (Part.endBurstsOf .hot moved.hotZones moved).demandDue = _
  rw [hot, Part.endBurstsOf_eq_foldl]
  rfl

/-- R59: the window holds the last four powers. -/
theorem joinWindow_eq (w : List Nat) (n : Nat) : joinWindow w n = (if w.length < 4 then w else w.drop 1) ++ [n] := by
  unfold joinWindow
  split <;> rfl

theorem Part.useConverter_eq (p : Part) (x : ConverterState) : p.useConverter x =
    if x = .fault ∧ p.session.kindActual = some .ac ∧ (p.session.state = .connecting
      ∨ p.session.state = .preheat ∨ p.session.state = .charging ∨ p.session.state = .suspended)
    then p.terminate .converter else p := by
  unfold Part.useConverter
  simp only [SessionState.connected_iff]

theorem Part.useHeater_eq (p : Part) (e : NodeEntry) (x : HeaterReadings) (left : EntryState) :
    let i := x.isolation
    let u := ((((((p.meterHeater e x).takeSwitches [(.zone1, i.z1), (.zone2, i.z2), (.zone3, i.z3),
      (.zone4, i.z4)]).takeHeatOn .z1 x.heatOn.z1).takeHeatOn .z2 x.heatOn.z2).takeHeatOn .z3
        x.heatOn.z3).takeHeatOn .z4 x.heatOn.z4)
    p.useHeater e x (left != .live) = if left = .live then u else { u with heat := { u.heat with demandDue := true } } := by
  intro i u
  show (if (left != .live) = true then u.demandDue else u) = _
  cases left <;> rfl

theorem Part.useSample_eq (e : NodeEntry) (seq : Byte) (r : Reading) (p : Part) :
    let left := (p.nodes.runtime.get e.role).state
    let q := (p.markUsed e seq).setReading r
    let banded : Part := { q with session := { q.session with bandPower := q.bandPowerNow } }
    let moved := banded.moveByBand.checkFull
    let hot (x : PackReadings) := moved.heat.burstOrder.filter fun z =>
      moved.heat.table.any fun t => decide ((t.table.zones.get z).ceiling ≤ (x.temps.get z).high)
    let cooled (x : PackReadings) := (hot x).foldl (fun (a : Part) z => a.endBurst .hot z) moved
    let taken : Part := match r with
      | .inlet x =>
        let u := (q.meterInlet e x).inletReturns x
        if p.mgmt.partState = .dormant ∧ x.plugPresent = true then u.wake .plug else u
      | .pack x => { cooled x with heat := { (cooled x).heat with demandDue := true } }
      | .heater x =>
        let i := x.isolation
        let u := ((((((q.meterHeater e x).takeSwitches [(.zone1, i.z1), (.zone2, i.z2), (.zone3, i.z3),
          (.zone4, i.z4)]).takeHeatOn .z1 x.heatOn.z1).takeHeatOn .z2 x.heatOn.z2).takeHeatOn .z3
            x.heatOn.z3).takeHeatOn .z4 x.heatOn.z4)
        if left = .live then u else { u with heat := { u.heat with demandDue := true } }
      | .cargo x =>
        let u := q.meterCargo e x
        if (q.branch .cargo).quarantine then u
        else { u with budget := { u.budget with
          window := (if u.budget.window.length < 4 then u.budget.window else u.budget.window.drop 1) ++ [x.power] } }
      | .converter x =>
        if x = .fault ∧ p.session.kindActual = some .ac ∧ (p.session.state = .connecting
          ∨ p.session.state = .preheat ∨ p.session.state = .charging ∨ p.session.state = .suspended)
        then q.terminate .converter else q
      | .contactor x =>
        q.takeSwitches [(.main, x.main), (.dcInlet, x.dcInlet), (.converter, x.converter), (.cargo, x.cargo)]
      | .injector x => q.takeInjector x (left == .stale)
    p.useSample e seq r = taken.finish := by
  intro left q banded moved hot cooled taken
  obtain ⟨session, state⟩ := p.markUsed_setReading_keeps e seq r
  show (q.consume e r (left == .stale) (left != .live)).finish = taken.finish
  refine congrArg Part.finish ?_
  cases r with
  | inlet x =>
    show q.useInlet e x = if p.mgmt.partState = .dormant ∧ x.plugPresent = true then
      ((q.meterInlet e x).inletReturns x).wake .plug else (q.meterInlet e x).inletReturns x
    rw [Part.useInlet_eq, ← state]
  | pack x => exact Part.usePack_eq (p := q) (x := x) rfl
  | heater x => exact q.useHeater_eq e x left
  | cargo x =>
    show q.useCargo e x = _
    unfold Part.useCargo
    simp only [joinWindow_eq]
    rfl
  | converter x =>
    show q.useConverter x = _
    rw [Part.useConverter_eq]
    dsimp only [taken]
    rw [← session]
  | contactor x => rfl
  | injector x => rfl

end Sys2Proof.Machine
end

section
/-! PROOFS. What the readings of a used sample do (O17), block by block. -/

namespace Sys2Proof.Machine

/-! ## The session (R72, R79, R81, R84, R88, R89, R92) -/

/-- R72: band power where no entry applies is the model's free value (log 45). -/
theorem LimitTable.bandPower_eq (t : LimitTable) (r : PackReadings) : t.bandPower r =
    t.entries.getLast?.elim 0 fun last =>
      if last.upper < r.hottest then 0
      else match t.entries.find? fun e => decide (r.coldest ≤ e.upper) with
        | none => Config.unstatedBandPower last.upper r.coldest
        | some e => e.power := by
  unfold LimitTable.bandPower
  cases t.entries.getLast? <;> rfl

theorem Part.bandPowerNow_eq (p : Part) :
    let figure (t : LimitTable) (r : PackReadings) (last : LimitEntry) : Nat :=
      if last.upper < r.hottest then 0
      else match t.entries.find? fun e => decide (r.coldest ≤ e.upper) with
        | none => Config.unstatedBandPower last.upper r.coldest
        | some e => e.power
    p.bandPowerNow = (match p.session.table, p.livePack with
      | some t, some r => t.table.entries.getLast?.elim 0 (figure t.table r)
      | _, _ => 0) := by
  intro figure
  unfold Part.bandPowerNow
  cases p.session.table with
  | none => rfl
  | some t =>
    cases p.livePack with
    | none => rfl
    | some r => exact t.table.bandPower_eq r

theorem Part.moveByBand_eq (p : Part) : p.moveByBand =
    if p.session.state = .preheat ∧ 0 < p.session.bandPower then p.enterSession .charging
    else if p.session.state = .charging ∧ p.session.bandPower = 0 then p.enterSession .preheat else p := by
  unfold Part.moveByBand
  cases p.session.state <;> simp

theorem Part.packFull_eq (p : Part) :
    p.packFull = p.livePack.any fun r => p.stopSoc.any fun x => decide (x ≤ r.soc) := by
  unfold Part.packFull
  cases p.livePack <;> cases p.stopSoc <;> rfl

theorem Part.checkFull_eq (p : Part) : p.checkFull =
    if (p.session.state = .preheat ∨ p.session.state = .charging)
      ∧ (p.livePack.any fun r => p.stopSoc.any fun x => decide (x ≤ r.soc)) = true then p.terminate .full else p := by
  unfold Part.checkFull
  simp only [Bool.and_eq_true, SessionState.drawing_iff, Part.packFull_eq]

theorem Part.stopSoc_eq (p : Part) :
    p.stopSoc = p.session.stopSoc.or (p.session.table.map fun t => t.table.stopSocDefault) := by
  unfold Part.stopSoc
  cases p.session.stopSoc <;> rfl

/-- R74: entry into a state other than ENDING carries no cause. -/
theorem Part.enterSession_eq (p : Part) (st : SessionState) (h : st ≠ .ending) :
    p.enterSession st = ({ p with session := { p.session with state := st } } : Part).raise
      (.sessionState p.session.recordNumber p.session.state st p.session.causes none) := by
  unfold Part.enterSession
  dsimp only
  rw [if_neg h]
  rfl

/-- R88, R92: the judgement of an INLET sample. -/
theorem Part.judgeInlet_eq (p : Part) (x : InletReadings) : p.judgeInlet x =
    if p.session.state = .connecting ∨ p.session.state = .preheat ∨ p.session.state = .charging
        ∨ p.session.state = .suspended then
      if x.plugPresent = false then p.terminate .unplug
      else if p.session.kindActual ≠ some x.kind then p.terminate .wrongInlet
      else if x.ready = false then p.terminate .inletStop else p
    else if x.plugPresent = false ∧ p.session.state = .ending then p.cutTail else p := by
  have tail : p.session.state ≠ .ending → p.cutTail = p := fun h => if_neg h
  unfold Part.judgeInlet
  simp only [SessionState.connected_iff, Bool.not_eq_true']
  split
  · cases x.plugPresent <;> cases x.ready <;> simp
  · by_cases h : p.session.state = .ending
    · simp [h]
    · simp [h, tail h]

/-! ## Switch readings (R27, R29) -/

theorem BranchEntry.judge_confirmed {e : BranchEntry} {x : Bool} (h : e.change.isSome = true ∧ x = e.commanded) :
    e.judge x = .confirmed := by
  obtain ⟨pending, same⟩ := h
  obtain ⟨w, change⟩ := Option.isSome_iff_exists.mp pending
  simp [BranchEntry.judge, change, same]

theorem BranchEntry.judge_moved {e : BranchEntry} {x : Bool}
    (h : e.change = none ∧ x ≠ e.commanded ∧ e.faulty = false) : e.judge x = .moved := by
  obtain ⟨settled, wrong, sound⟩ := h
  simp [BranchEntry.judge, settled, wrong, sound]

theorem BranchEntry.judge_quiet {e : BranchEntry} {x : Bool} (unconfirmed : ¬ (e.change.isSome = true ∧ x = e.commanded))
    (unmoved : ¬ (e.change = none ∧ x ≠ e.commanded ∧ e.faulty = false)) : e.judge x = .quiet := by
  unfold BranchEntry.judge
  cases change : e.change with
  | some w =>
    have differs : x ≠ e.commanded := fun same => unconfirmed ⟨by rw [change]; rfl, same⟩
    simp [differs]
  | none =>
    have excused : x = e.commanded ∨ e.faulty = true := by
      refine Decidable.byContradiction fun wrong => ?_
      obtain ⟨differs, sound⟩ := not_or.mp wrong
      exact unmoved ⟨change, differs, Bool.eq_false_iff.mpr sound⟩
    rcases excused with same | faulty
    · simp [same]
    · simp [faulty]

/-- R90: the inlet branch of a connected session. -/
theorem Part.ownsInlet_eq (p : Part) (b : Branch) : p.ownsInlet b =
    ((p.session.state == .connecting || p.session.state == .preheat || p.session.state == .charging
      || p.session.state == .suspended) && p.session.kindActual.any fun k => k.branch == b) := by
  have state : p.session.state.connected = (p.session.state == .connecting || p.session.state == .preheat
      || p.session.state == .charging || p.session.state == .suspended) := by
    cases p.session.state <;> rfl
  unfold Part.ownsInlet
  rw [state]
  cases p.session.kindActual <;> rfl

theorem Part.connectConfirmed_eq (p : Part) (b : Branch) (x : Bool) : p.connectConfirmed b x =
    if x = true ∧ p.session.state = .connecting ∧ p.ownsInlet b = true then
      (p.enterSession (if p.session.bandPower = 0 then .preheat else .charging)).checkFull
    else p := by
  unfold Part.connectConfirmed Part.enterPowered
  refine ite_congr ?_ (fun _ => rfl) fun _ => rfl
  rw [Bool.and_eq_true, Bool.and_eq_true, decide_eq_true_iff]
  exact propext ⟨fun ⟨⟨st, own⟩, closed⟩ => ⟨closed, st, own⟩, fun ⟨closed, st, own⟩ => ⟨⟨st, own⟩, closed⟩⟩

/-- R27 to R29: whom a branch's reading tells, given its entry as it stood before the readings. -/
theorem Part.tellFeedback_eq (q : Part) (b : Branch) (x : Bool) (e : BranchEntry) :
    let owns (q : Part) (b : Branch) : Bool := (q.session.state == .connecting
      || q.session.state == .preheat || q.session.state == .charging || q.session.state == .suspended)
      && q.session.kindActual.any fun k => k.branch == b
    q.tellFeedback b x (e.judge x) =
      if e.change.isSome = true ∧ x = e.commanded then
        let u := q.locateConfirmed b x
        if x = true ∧ u.session.state = .connecting ∧ owns u b = true then
          (u.enterSession (if u.session.bandPower = 0 then .preheat else .charging)).checkFull
        else u
      else if e.change = none ∧ x ≠ e.commanded ∧ e.faulty = false then
        let v := (q.raise (.contactorMismatch b (q.branch b).commanded (some x) .uncommanded)).locateMoved b
        if owns v b = true then v.terminate .contactor else v
      else q := by
  intro owns
  by_cases confirmed : e.change.isSome = true ∧ x = e.commanded
  · rw [if_pos confirmed, BranchEntry.judge_confirmed confirmed]
    show (q.locateConfirmed b x).connectConfirmed b x = _
    rw [Part.connectConfirmed_eq, Part.ownsInlet_eq]
  · rw [if_neg confirmed]
    by_cases moved : e.change = none ∧ x ≠ e.commanded ∧ e.faulty = false
    · rw [if_pos moved, BranchEntry.judge_moved moved]
      show ((q.raise _).locateMoved b).reportContactor b = _
      rw [Part.reportContactor, Part.ownsInlet_eq]
    · rw [if_neg moved, BranchEntry.judge_quiet confirmed moved]
      rfl

/-! ## Heat-on readings (R113) -/

theorem PerZone.set_set {α : Type} (t : PerZone α) (z : Zone) (a b : α) : (t.set z a).set z b = t.set z b := by
  cases z <;> rfl

theorem Part.takeHeatOn_eq (p : Part) (z : Zone) (x : Bool) :
    let c := p.zone z
    let kept (d : ZoneContext) : Part := { p with heat := { p.heat with zones := p.heat.zones.set z d } }
    p.takeHeatOn z x =
      if x = c.heatOn then kept { c with feedback := some x, change := none, mismatch := false }
      else if c.change = none ∧ c.mismatch = false then
        (kept { c with feedback := some x, mismatch := true }).raise (.heatZone z (.mismatch c.heatOn (some x)))
      else kept { c with feedback := some x } := by
  intro c kept
  have twice : ((p.modZone z fun c => { c with feedback := some x }).modZone z fun c => { c with mismatch := true }) =
      kept { c with feedback := some x, mismatch := true } := by
    simp [Part.modZone, Part.modHeat, kept, c, Part.zone, PerZone.set_set]
  have fresh : (c.change.isNone && !c.mismatch) = true ↔ c.change = none ∧ c.mismatch = false := by
    rw [Bool.and_eq_true, Option.isNone_iff_eq_none, Bool.not_eq_true']
  unfold Part.takeHeatOn
  dsimp only
  rw [twice]
  exact ite_congr rfl (fun _ => rfl) fun _ => ite_congr (propext fresh) (fun _ => rfl) fun _ => rfl

/-! ## The injector's sample before it is counted (R124, R136) -/

theorem Part.enterSettling_table (p : Part) : p.enterSettling.monitor.table = p.monitor.table :=
  congrArg Steady.insulationTable p.enterSettling_steady

theorem Part.queueDrive_monitor (p : Part) (d : Drive) : (p.queueDrive d).monitor = p.monitor := by
  unfold Part.queueDrive
  split <;> rfl

/-- R124, log 20: a return from STALE queues the mode again, with a fresh pending change. -/
def Part.modeAgain (p : Part) (returned : Bool) : Part := if returned then p.queueMode else p

/-- R124: the echo of the commanded mode confirms it. -/
def Part.echoed (p : Part) (echo : InjectorMode) (returned : Bool) : Part :=
  (p.modeAgain returned).modMonitor fun m =>
    { m with change := if echo = p.monitor.mode then none else (p.modeAgain returned).monitor.change }

/-- R136: the part when the sample is counted: out of UNKNOWN at a return. -/
def Part.settledBack (p : Part) (echo : InjectorMode) (returned : Bool) : Part :=
  if returned = true ∧ p.monitor.state = .unknown then (p.echoed echo returned).enterSettling
  else p.echoed echo returned

theorem Part.modeAgain_monitor (p : Part) (returned : Bool) : (p.modeAgain returned).monitor =
    { p.monitor with change := (p.modeAgain returned).monitor.change } := by
  cases returned with
  | false => rfl
  | true =>
    show p.queueMode.monitor = { p.monitor with change := p.queueMode.monitor.change }
    rw [Part.queueMode, Part.queueDrive_monitor]
    rfl

theorem Part.echoed_monitor (p : Part) (echo : InjectorMode) (returned : Bool) : (p.echoed echo returned).monitor =
    { p.monitor with change := (p.echoed echo returned).monitor.change } :=
  show ({ (p.modeAgain returned).monitor with change := _ } : Monitor) = _ by
    rw [Part.modeAgain_monitor]
    rfl

theorem Part.settledBack_table (p : Part) (echo : InjectorMode) (returned : Bool) :
    (p.settledBack echo returned).monitor.table = p.monitor.table := by
  have kept : (p.echoed echo returned).monitor.table = p.monitor.table := by rw [Part.echoed_monitor]
  unfold Part.settledBack
  split
  · rw [Part.enterSettling_table, kept]
  · exact kept

theorem Part.takeInjector_eq (p : Part) (r : InjectorReadings) (returned : Bool) :
    p.takeInjector r returned = match p.monitor.table with
      | some t =>
        if r.settled = true ∧ r.echo = (p.settledBack r.echo returned).monitor.mode then
          (p.settledBack r.echo returned).countedSample t.table r p.locator.latch
        else p.settledBack r.echo returned
      | none => p.settledBack r.echo returned := by
  have mode : (p.modeAgain returned).monitor.mode = p.monitor.mode := by rw [Part.modeAgain_monitor]
  have judged : (if r.echo = (p.modeAgain returned).monitor.mode
      then (p.modeAgain returned).modMonitor fun m => { m with change := none } else p.modeAgain returned) =
      p.echoed r.echo returned := by
    rw [mode, Part.echoed]
    split <;> rfl
  have state : (p.echoed r.echo returned).monitor.state = p.monitor.state := by rw [Part.echoed_monitor]
  have back : (if (returned && (p.echoed r.echo returned).monitor.state == .unknown) = true
      then (p.echoed r.echo returned).enterSettling else p.echoed r.echo returned) = p.settledBack r.echo returned := by
    rw [state, Part.settledBack]
    exact ite_congr (by rw [Bool.and_eq_true, beq_iff_eq]) (fun _ => rfl) fun _ => rfl
  unfold Part.takeInjector
  dsimp only
  rw [← Part.modeAgain, judged, back, Part.settledBack_table]
  cases p.monitor.table with
  | none => rfl
  | some t => exact ite_congr (by rw [Bool.and_eq_true, beq_iff_eq]) (fun _ => rfl) fun _ => rfl

end Sys2Proof.Machine
end

section
/-! PROOFS. What the blocks' operations leave of one another, for the judgement of an INJECTOR sample (O17). -/

namespace Sys2Proof.Machine

/-! ## The Session Controller leaves monitor, Locator and heating alone -/

/-- What no operation on the session changes. -/
structure Beside where
  monitor : Monitor
  locator : Locator
  heat : Heating

/-- What no operation on the session changes, read from the part. -/
def Part.beside (p : Part) : Beside := ⟨p.monitor, p.locator, p.heat⟩

theorem Part.monitor_of_beside {p q : Part} (h : q.beside = p.beside) : q.monitor = p.monitor :=
  congrArg Beside.monitor h

theorem Part.locator_of_beside {p q : Part} (h : q.beside = p.beside) : q.locator = p.locator :=
  congrArg Beside.locator h

theorem Part.heat_of_beside {p q : Part} (h : q.beside = p.beside) : q.heat = p.heat :=
  congrArg Beside.heat h

@[simp] theorem Part.closeSession_beside (p : Part) : p.closeSession.beside = p.beside := by
  show p.closeRecord.beside = p.beside
  unfold Part.closeRecord
  split <;> rfl

@[simp] theorem Part.cutTail_beside (p : Part) : p.cutTail.beside = p.beside := by
  unfold Part.cutTail
  split
  · rw [Part.closeSession_beside]
    split <;> rfl
  · rfl

@[simp] theorem Part.beginTail_beside (p : Part) : p.beginTail.beside = p.beside := by
  unfold Part.beginTail
  split
  · exact p.closeSession_beside
  · split
    · exact p.cutTail_beside
    · rfl

@[simp] theorem Part.terminate_beside (p : Part) (c : Cause) : (p.terminate c).beside = p.beside := by
  unfold Part.terminate
  split
  · exact Part.beginTail_beside _
  · rfl

@[simp] theorem Part.checkFull_beside (p : Part) : p.checkFull.beside = p.beside := by
  unfold Part.checkFull
  split
  · exact p.terminate_beside _
  · rfl

@[simp] theorem Part.moveByBand_beside (p : Part) : p.moveByBand.beside = p.beside := by
  rw [Part.moveByBand_eq]
  split
  · rfl
  · split <;> rfl

@[simp] theorem Part.resumeTests_beside (p : Part) : p.resumeTests.beside = p.beside := by
  unfold Part.resumeTests
  split
  · split
    · exact Part.checkFull_beside _
    · rfl
  · rw [Part.checkFull_beside, Part.moveByBand_beside]

@[simp] theorem Part.removeCause_beside (p : Part) (c : Suspension) : (p.removeCause c).beside = p.beside := by
  unfold Part.removeCause
  dsimp only
  split
  · split
    · exact Part.resumeTests_beside _
    · rfl
  · rfl

@[simp] theorem Part.addCause_beside (p : Part) (c : Suspension) : (p.addCause c).beside = p.beside := by
  unfold Part.addCause
  dsimp only
  split
  · rfl
  · split <;> rfl

@[simp] theorem Part.sessionTrip_beside (p : Part) : p.sessionTrip.beside = p.beside := by
  unfold Part.sessionTrip
  split
  · exact p.terminate_beside _
  · exact p.cutTail_beside

/-! ## The UNKNOWN grace stays stopped (R85) -/

theorem Part.cutTail_unknownGrace {p : Part} (h : p.session.unknownGrace = none) :
    p.cutTail.session.unknownGrace = none := by
  unfold Part.cutTail
  split
  · rfl
  · exact h

theorem Part.beginTail_unknownGrace {p : Part} (h : p.session.unknownGrace = none) :
    p.beginTail.session.unknownGrace = none := by
  unfold Part.beginTail
  split
  · rfl
  · split
    · exact Part.cutTail_unknownGrace h
    · exact h

theorem Part.terminate_unknownGrace {p : Part} (c : Cause) (h : p.session.unknownGrace = none) :
    (p.terminate c).session.unknownGrace = none := by
  unfold Part.terminate
  split
  · exact Part.beginTail_unknownGrace rfl
  · exact h

theorem Part.checkFull_unknownGrace {p : Part} (h : p.session.unknownGrace = none) :
    p.checkFull.session.unknownGrace = none := by
  unfold Part.checkFull
  split
  · exact Part.terminate_unknownGrace _ h
  · exact h

theorem Part.moveByBand_unknownGrace {p : Part} (h : p.session.unknownGrace = none) :
    p.moveByBand.session.unknownGrace = none := by
  rw [Part.moveByBand_eq]
  split
  · exact h
  · split <;> exact h

theorem Part.resumeTests_unknownGrace {p : Part} (h : p.session.unknownGrace = none) :
    p.resumeTests.session.unknownGrace = none := by
  unfold Part.resumeTests
  split
  · split
    · exact Part.checkFull_unknownGrace h
    · exact h
  · exact Part.checkFull_unknownGrace (Part.moveByBand_unknownGrace h)

theorem Part.removeCause_unknownGrace {p : Part} (c : Suspension) (h : p.session.unknownGrace = none) :
    (p.removeCause c).session.unknownGrace = none := by
  unfold Part.removeCause
  dsimp only
  split
  · split
    · exact Part.resumeTests_unknownGrace h
    · exact h
  · exact h

/-! ## Changes of the monitor's state (R132) -/

/-- The monitor's counters and its latch, which a change of state leaves as they are. -/
structure Tally where
  trip : Nat
  warn : Nat
  recover : Nat
  settle : Nat
  latch : Bool

/-- The counters and the latch, read from the monitor. -/
def Monitor.tally (m : Monitor) : Tally := ⟨m.tripCount, m.warnCount, m.recoverCount, m.settleTaken, m.tripLatch⟩

/-- R124: a drive of the mode moves neither state nor counts. -/
theorem Part.syncMode_state_tally (p : Part) :
    p.syncMode.monitor.state = p.monitor.state ∧ p.syncMode.monitor.tally = p.monitor.tally := by
  rw [Part.syncMode_eq]
  dsimp only
  split
  · exact ⟨rfl, rfl⟩
  · rw [Part.queueDrive_monitor]
    exact ⟨rfl, rfl⟩

/-- R132: what a change of state does to the monitor. -/
theorem Part.enterMonitor_state_tally (p : Part) (st : MonitorState) (reason : Option UnknownReason) :
    (p.enterMonitor st reason).monitor.state = st ∧ (p.enterMonitor st reason).monitor.tally = p.monitor.tally := by
  unfold Part.enterMonitor
  dsimp only
  split <;> exact Part.syncMode_state_tally _

/-- What a change of the monitor's state leaves alone. -/
theorem Part.syncMode_elsewhere (p : Part) : p.syncMode.session = p.session ∧ p.syncMode.store = p.store
    ∧ p.syncMode.locator = p.locator ∧ p.syncMode.heat = p.heat := by
  rw [Part.syncMode_eq]
  dsimp only
  split
  · exact ⟨rfl, rfl, rfl, rfl⟩
  · unfold Part.queueDrive
    split <;> exact ⟨rfl, rfl, rfl, rfl⟩

/-- R132, R144: what a change of the monitor's state leaves of the other blocks. -/
theorem Part.enterMonitor_elsewhere (p : Part) (st : MonitorState) (reason : Option UnknownReason) :
    let q := p.enterMonitor st reason
    q.session = p.session ∧ q.store = p.store ∧ q.heat = { p.heat with demandDue := true }
      ∧ q.locator.active = p.locator.active ∧ q.locator.latch = p.locator.latch
      ∧ (st ≠ .normal → q.locator = p.locator) := by
  obtain ⟨session, store, locator, heat⟩ :=
    Part.syncMode_elsewhere (p.modMonitor fun m => { m with state := st, reason := reason })
  have due := congrArg (fun h : Heating => { h with demandDue := true }) heat
  have active := congrArg Locator.active locator
  have latch := congrArg Locator.latch locator
  unfold Part.enterMonitor
  dsimp only
  split
  · next normal => exact ⟨session, store, due, active, latch, fun other => absurd normal other⟩
  · exact ⟨session, store, due, active, latch, fun _ => locator⟩

/-- R128, R136: entry into SETTLING out of UNKNOWN. -/
theorem Part.enterSettling_of_unknown {p : Part} (h : p.monitor.state = .unknown) :
    p.enterSettling.monitor.state = .settling ∧ p.enterSettling.monitor.settleTaken = 0
      ∧ p.enterSettling.monitor.tripCount = 0 ∧ p.enterSettling.monitor.warnCount = 0
      ∧ p.enterSettling.monitor.recoverCount = 0 ∧ p.enterSettling.session.unknownGrace = none := by
  have entered : p.enterSettling = ((p.modMonitor Monitor.settleCleared).enterMonitor .settling none).monitorBack := by
    rw [Part.enterSettling, h]
  obtain ⟨state, tally⟩ := (p.modMonitor Monitor.settleCleared).enterMonitor_state_tally .settling none
  rw [entered]
  generalize (p.modMonitor Monitor.settleCleared).enterMonitor .settling none = q at state tally
  have kept : q.monitorBack.monitor = q.monitor :=
    Part.monitor_of_beside (Part.removeCause_beside (q.modSession fun s => { s with unknownGrace := none }) _)
  rw [kept]
  exact ⟨state, congrArg Tally.settle tally, congrArg Tally.trip tally, congrArg Tally.warn tally,
    congrArg Tally.recover tally, Part.removeCause_unknownGrace _ rfl⟩

/-- R136: the sample that returns from STALE takes the monitor out of UNKNOWN. -/
theorem Part.takeInjector_returned (p : Part) (r : InjectorReadings) (unknown : p.monitor.state = .unknown)
    (unsettled : r.settled = false) :
    let q := p.takeInjector r true
    q.monitor.state = .settling ∧ q.monitor.settleTaken = 0 ∧ q.monitor.tripCount = 0 ∧ q.monitor.warnCount = 0
      ∧ q.monitor.recoverCount = 0 ∧ q.session.unknownGrace = none := by
  have back : p.takeInjector r true = (p.echoed r.echo true).enterSettling := by
    have settling : p.settledBack r.echo true = (p.echoed r.echo true).enterSettling := if_pos ⟨rfl, unknown⟩
    rw [Part.takeInjector_eq, settling]
    cases p.monitor.table with
    | none => rfl
    | some t => exact if_neg fun h => by rw [unsettled] at h; cases h.1
  have state : (p.echoed r.echo true).monitor.state = .unknown := by
    rw [Part.echoed_monitor]
    exact unknown
  intro q
  rw [show q = (p.echoed r.echo true).enterSettling from back]
  exact Part.enterSettling_of_unknown state

end Sys2Proof.Machine
end

section
/-! PROOFS. The judgement of a counted sample (O17), short of a trip. -/

namespace Sys2Proof.Machine

/-! ## The Branch Locator leaves the monitor alone -/

theorem Part.endBurstsOf_monitor (e : Ending) (zs : List Zone) (p : Part) :
    (Part.endBurstsOf e zs p).monitor = p.monitor :=
  congrArg (fun a : Wired × Budget => a.1.monitor) (Part.endBurstsOf_aside e zs p)

theorem Part.endProcedure_monitor (p : Part) (how : LocateEnd) : (p.endProcedure how).monitor = p.monitor := by
  show (Part.removeCause _ .locate).monitor = p.monitor
  rw [Part.monitor_of_beside (Part.removeCause_beside _ _)]
  rfl

theorem Part.quarantineZone_monitor (p : Part) (z : Zone) : (p.quarantineZone z).monitor = p.monitor :=
  congrArg (fun a : Wired × Budget => a.1.monitor) (Part.endBurst_aside p .shed z)

theorem Part.applyQuarantine_monitor (p : Part) (b : Branch) : (p.applyQuarantine b).monitor = p.monitor := by
  unfold Part.applyQuarantine
  split
  · exact p.quarantineZone_monitor _
  · split
    · rfl
    · split
      · exact Part.monitor_of_beside (p.terminate_beside _)
      · rfl

theorem Part.verdictQuarantined_monitor (p : Part) (b : Branch) (n : Nat) :
    (p.verdictQuarantined b n).monitor = p.monitor := by
  unfold Part.verdictQuarantined
  rw [Part.endProcedure_monitor, Part.applyQuarantine_monitor]
  rfl

theorem Part.beginStep_monitor (bs : List Branch) (n : Nat) (p : Part) : (Part.beginStep bs n p).monitor = p.monitor := by
  induction bs generalizing n p with
  | nil => exact Part.endProcedure_monitor _ _
  | cons b rest ih =>
    unfold Part.beginStep
    dsimp only
    split
    · exact ih _ _
    · rfl

theorem Part.restoreTested_monitor (p : Part) (b : Branch) : (p.restoreTested b).monitor = p.monitor := by
  unfold Part.restoreTested
  dsimp only
  split
  · rfl
  · exact Part.beginStep_monitor _ _ _

theorem Part.stepSample_monitor (p : Part) (t : InsulationTable) (n : Nat) : (p.stepSample t n).monitor = p.monitor := by
  unfold Part.stepSample
  dsimp only
  split
  · split <;> rfl
  · split
    · split
      · exact Part.verdictQuarantined_monitor _ _ _
      · rfl
    · exact Part.restoreTested_monitor _ _
  · rfl

theorem Part.startProcedure_monitor (p : Part) (n : Nat) : (p.startProcedure n).monitor = p.monitor := by
  unfold Part.startProcedure
  rw [Part.beginStep_monitor]
  show (Part.endBurstsOf .shed _ _).monitor = p.monitor
  rw [Part.endBurstsOf_monitor, Part.monitor_of_beside (Part.addCause_beside _ _)]
  rfl

theorem Part.handToLocator_monitor (p : Part) (t : InsulationTable) (n : Nat) (latched : Bool) :
    (p.handToLocator t n latched).monitor = p.monitor := by
  unfold Part.handToLocator
  split
  · exact p.stepSample_monitor t n
  · split
    · exact p.startProcedure_monitor n
    · rfl

/-- R145: with no procedure active and no latch before the event the Locator takes nothing. -/
theorem Part.handToLocator_idle {p : Part} (inactive : p.locator.active = false) (t : InsulationTable) (n : Nat) :
    p.handToLocator t n false = p := by
  simp [Part.handToLocator, inactive]

/-! ## The warn and recover tests (R129, R130) -/

/-- The warn counter after an estimate. -/
def ContextRecord.warns (c : ContextRecord) (m : Monitor) (estimate : Nat) : Nat :=
  if estimate < c.warn then m.warnCount + 1 else 0

/-- The recover counter after an estimate. -/
def ContextRecord.recovers (c : ContextRecord) (m : Monitor) (estimate : Nat) : Nat :=
  if c.recover ≤ estimate then m.recoverCount + 1 else 0

theorem Part.autoLocate_elsewhere (p : Part) : p.autoLocate.monitor = p.monitor ∧ p.autoLocate.store = p.store
    ∧ p.autoLocate.locator.active = p.locator.active := by
  unfold Part.autoLocate
  split <;> exact ⟨rfl, rfl, rfl⟩

/-- R144: a request latches but for an active procedure and an inert Locator. -/
theorem Part.autoLocate_latch {p : Part} (inactive : p.locator.active = false) :
    p.autoLocate.locator.latch = (p.locator.latch || !p.locator.inert) := by
  unfold Part.autoLocate
  cases inert : p.locator.inert <;> simp [inactive]

section
variable {p : Part} {t : InsulationTable} {c : ContextRecord} {estimate : Nat}

theorem Part.warnTest_quiet (quiet : ¬ (p.monitor.state = .normal ∧ c.confirm ≤ c.warns p.monitor estimate)) :
    p.warnTest t c estimate = p.modMonitor fun m => { m with warnCount := c.warns p.monitor estimate } := by
  refine if_neg fun warning => quiet ?_
  rw [Bool.and_eq_true, decide_eq_true_iff, decide_eq_true_iff] at warning
  exact warning

theorem Part.warnTest_warns (warning : p.monitor.state = .normal ∧ c.confirm ≤ c.warns p.monitor estimate) :
    p.warnTest t c estimate =
      let q := (p.modMonitor fun m => { m with warnCount := c.warns p.monitor estimate }).enterMonitor .warning none
      if t.autoLocate then q.autoLocate else q := by
  refine if_pos ?_
  rw [Bool.and_eq_true, decide_eq_true_iff, decide_eq_true_iff]
  exact warning

/-- R129: the warn counter, and the state it leads to. -/
theorem Part.warnTest_state_tally (p : Part) (t : InsulationTable) (c : ContextRecord) (estimate : Nat) :
    let q := p.warnTest t c estimate
    q.monitor.tally = { p.monitor.tally with warn := c.warns p.monitor estimate }
      ∧ q.monitor.state = (if p.monitor.state = .normal ∧ c.confirm ≤ c.warns p.monitor estimate then .warning
        else p.monitor.state) := by
  intro q
  by_cases warning : p.monitor.state = .normal ∧ c.confirm ≤ c.warns p.monitor estimate
  · obtain ⟨state, tally⟩ := (p.modMonitor fun m =>
      { m with warnCount := c.warns p.monitor estimate }).enterMonitor_state_tally .warning none
    rw [if_pos warning, show q = _ from Part.warnTest_warns warning]
    dsimp only
    split
    · rw [(Part.autoLocate_elsewhere _).1]
      exact ⟨tally, state⟩
    · exact ⟨tally, state⟩
  · rw [if_neg warning, show q = _ from Part.warnTest_quiet warning]
    exact ⟨rfl, rfl⟩

/-- R129, R144: what the warn test does to record and Locator while no procedure is active. -/
theorem Part.warnTest_elsewhere (inactive : p.locator.active = false) :
    let q := p.warnTest t c estimate
    q.store = p.store ∧ q.locator.active = false
      ∧ q.locator.latch = (p.locator.latch || (p.monitor.state == .normal
        && decide (c.confirm ≤ c.warns p.monitor estimate) && t.autoLocate && !p.locator.inert)) := by
  intro q
  by_cases warning : p.monitor.state = .normal ∧ c.confirm ≤ c.warns p.monitor estimate
  · obtain ⟨-, store, -, active, latch, locator⟩ := (p.modMonitor fun m =>
      { m with warnCount := c.warns p.monitor estimate }).enterMonitor_elsewhere .warning none
    have kept := locator (by decide)
    have idle := active.trans inactive
    rw [show q = _ from Part.warnTest_warns warning]
    dsimp only
    split
    · next auto =>
      obtain ⟨-, autoStore, autoActive⟩ := Part.autoLocate_elsewhere ((p.modMonitor fun m =>
        { m with warnCount := c.warns p.monitor estimate }).enterMonitor .warning none)
      refine ⟨autoStore.trans store, autoActive.trans idle, ?_⟩
      rw [Part.autoLocate_latch idle, kept]
      simp [warning.1, warning.2, auto]
    · next auto =>
      refine ⟨store, idle, latch.trans ?_⟩
      simp [Bool.eq_false_iff.mpr auto]
  · rw [show q = _ from Part.warnTest_quiet warning]
    refine ⟨rfl, inactive, ?_⟩
    have none : (p.monitor.state == .normal && decide (c.confirm ≤ c.warns p.monitor estimate)) = false := by
      rw [Bool.eq_false_iff]
      simpa using warning
    simp [none]

theorem Part.recoverTest_other (other : p.monitor.state ≠ .warning) : p.recoverTest c estimate = p := if_neg other

theorem Part.recoverTest_counts (warning : p.monitor.state = .warning)
    (short : c.recovers p.monitor estimate < c.confirm) :
    p.recoverTest c estimate = p.modMonitor fun m => { m with recoverCount := c.recovers p.monitor estimate } := by
  unfold Part.recoverTest
  rw [if_pos warning]
  exact if_neg (Nat.not_le.mpr short)

theorem Part.recoverTest_recovers (warning : p.monitor.state = .warning)
    (full : c.confirm ≤ c.recovers p.monitor estimate) :
    p.recoverTest c estimate =
      (p.modMonitor fun m => { m with warnCount := 0, recoverCount := 0 }).enterMonitor .normal none := by
  unfold Part.recoverTest
  rw [if_pos warning]
  exact if_pos full

/-- R129, R130: the recover test leaves the trip counter, the latches and the records alone. -/
theorem Part.recoverTest_elsewhere (p : Part) (c : ContextRecord) (estimate : Nat) :
    (p.recoverTest c estimate).store = p.store ∧ (p.recoverTest c estimate).locator.active = p.locator.active
      ∧ (p.recoverTest c estimate).locator.latch = p.locator.latch
      ∧ (p.recoverTest c estimate).monitor.tripCount = p.monitor.tripCount
      ∧ (p.recoverTest c estimate).monitor.tripLatch = p.monitor.tripLatch := by
  by_cases warning : p.monitor.state = .warning
  · rcases Nat.lt_or_ge (c.recovers p.monitor estimate) c.confirm with short | full
    · rw [Part.recoverTest_counts warning short]
      exact ⟨rfl, rfl, rfl, rfl, rfl⟩
    · rw [Part.recoverTest_recovers warning full]
      obtain ⟨-, store, -, active, latch, -⟩ := (p.modMonitor fun m =>
        { m with warnCount := 0, recoverCount := 0 }).enterMonitor_elsewhere .normal none
      obtain ⟨-, tally⟩ := (p.modMonitor fun m =>
        { m with warnCount := 0, recoverCount := 0 }).enterMonitor_state_tally .normal none
      exact ⟨store, active, latch, congrArg Tally.trip tally, congrArg Tally.latch tally⟩
  · rw [Part.recoverTest_other warning]
    exact ⟨rfl, rfl, rfl, rfl, rfl⟩

end

/-! ## A counted sample, state by state (R128 to R131, R136, R137) -/

section
variable {p : Part} {t : InsulationTable} {r : InjectorReadings} {latched : Bool}

theorem Part.countedSample_judges (judging : p.monitor.state = .normal ∨ p.monitor.state = .warning) :
    p.countedSample t r latched = p.judgeSample t r.resistance latched := by
  unfold Part.countedSample
  rcases judging with st | st <;> rw [st]

theorem Part.countedSample_checking (checking : p.monitor.state = .checking) :
    p.countedSample t r latched = p.checkSample t r.selfCheck := by
  unfold Part.countedSample
  rw [checking]

theorem Part.countedSample_noted
    (noted : p.monitor.state = .faulty ∨ p.monitor.state = .tripped
      ∨ (p.monitor.state = .unknown ∧ p.monitor.reason ≠ some .mode)) :
    p.countedSample t r latched = p.setLatest r.resistance := by
  unfold Part.countedSample
  rcases noted with st | st | ⟨st, reason⟩
  · rw [st]
  · rw [st]
  · rw [st]
    exact if_neg reason

theorem Part.countedSample_modeBack (unknown : p.monitor.state = .unknown) (reason : p.monitor.reason = some .mode) :
    p.countedSample t r latched = (p.setLatest r.resistance).enterSettling := by
  unfold Part.countedSample
  rw [unknown]
  exact if_pos reason

/-- R128: a counted sample in SETTLING. -/
theorem Part.countedSample_settling (settling : p.monitor.state = .settling) :
    p.countedSample t r latched = if p.monitor.settleTaken < (t.record p.monitor.context).settle then
        (p.setLatest r.resistance).modMonitor fun m => { m with settleTaken := m.settleTaken + 1 }
      else ((p.setLatest r.resistance).enterMonitor .normal none).countedSample t r latched := by
  have normal := ((p.setLatest r.resistance).enterMonitor_state_tally .normal none).1
  rw [Part.countedSample_judges (.inl normal)]
  unfold Part.countedSample
  rw [settling]
  show (if _ then _ else _) = _
  split
  · next full => rw [if_neg (Nat.not_lt.mpr full)]
  · next short => rw [if_pos (Nat.not_le.mp short)]

theorem inRange_iff (low high n : Nat) : inRange low high n = true ↔ low ≤ n ∧ n ≤ high := by
  simp [inRange]

/-- R137: a self-check reading outside the acceptance band. -/
theorem Part.checkSample_outside {reading : Nat}
    (outside : ¬ (t.acceptBand.1 ≤ reading ∧ reading ≤ t.acceptBand.2)) :
    p.checkSample t reading = p.endSelfCheck t (some .outOfTolerance) (some reading) :=
  if_neg (mt (inRange_iff _ _ _).mp outside)

/-- R137: a self-check reading inside the acceptance band. -/
theorem Part.checkSample_inside {reading : Nat} (inside : t.acceptBand.1 ≤ reading ∧ reading ≤ t.acceptBand.2) :
    let passed := p.modMonitor fun m => { m with checkCount := m.checkCount + 1 }
    p.checkSample t reading = if p.monitor.checkCount + 1 < t.samples then passed
      else passed.endSelfCheck t none none := by
  intro passed
  refine (if_pos ((inRange_iff _ _ _).mpr inside)).trans ?_
  show (if t.samples ≤ p.monitor.checkCount + 1 then passed.endSelfCheck t none none else passed) = _
  split
  · next full => rw [if_neg (Nat.not_lt.mpr full)]
  · next short => rw [if_pos (Nat.not_le.mp short)]

end

/-! ## A judged sample (R129 to R131) -/

/-- The trip counter after an estimate. -/
def ContextRecord.trips (c : ContextRecord) (m : Monitor) (estimate : Nat) : Nat :=
  if estimate < c.trip then m.tripCount + 1 else 0

/-- The part with a judged estimate noted and the trip counter moved. -/
def Part.judged (p : Part) (t : InsulationTable) (estimate : Nat) : Part :=
  ((p.lowerRecord estimate).setLatest estimate).modMonitor fun m =>
    { m with tripCount := (t.record p.monitor.context).trips p.monitor estimate }

section
variable {p : Part} {t : InsulationTable} {estimate : Nat} {latched : Bool}

theorem Part.judgeSample_trips
    (trips : (t.record p.monitor.context).confirm ≤ (t.record p.monitor.context).trips p.monitor estimate) :
    p.judgeSample t estimate latched = (p.judged t estimate).trip estimate (t.record p.monitor.context).trip :=
  if_pos trips

theorem Part.judgeSample_goesOn
    (within : (t.record p.monitor.context).trips p.monitor estimate < (t.record p.monitor.context).confirm) :
    p.judgeSample t estimate latched = (((p.judged t estimate).warnTest t (t.record p.monitor.context) estimate).recoverTest
      (t.record p.monitor.context) estimate).handToLocator t estimate latched :=
  if_neg (Nat.not_le.mpr within)

/-- R145: the sample that is handed on to the Locator leaves the monitor as the two tests leave it. -/
theorem Part.judgeSample_monitor
    (within : (t.record p.monitor.context).trips p.monitor estimate < (t.record p.monitor.context).confirm) :
    (p.judgeSample t estimate latched).monitor = (((p.judged t estimate).warnTest t (t.record p.monitor.context)
      estimate).recoverTest (t.record p.monitor.context) estimate).monitor := by
  rw [Part.judgeSample_goesOn within, Part.handToLocator_monitor]

end

theorem Part.judgeSample_cases (p : Part) (t : InsulationTable) (est : Nat) (latched : Bool)
    (judging : p.monitor.state = .normal ∨ p.monitor.state = .warning) :
    let m := p.monitor
    let c := t.record m.context
    let q := p.judgeSample t est latched
    let trips := if est < c.trip then m.tripCount + 1 else 0
    let warns := if est < c.warn then m.warnCount + 1 else 0
    let recovers := if c.warn + c.warn / 8 ≤ est then m.recoverCount + 1 else 0
    let warned := m.state = .warning ∨ c.confirm ≤ warns
    trips < c.confirm →
      q.monitor.tripCount = trips ∧ q.monitor.tripLatch = m.tripLatch
        ∧ (¬ warned → q.monitor.state = .normal ∧ q.monitor.warnCount = warns
          ∧ q.monitor.recoverCount = m.recoverCount ∧ q.monitor.latest = some est)
        ∧ (warned → recovers < c.confirm → q.monitor.state = .warning ∧ q.monitor.warnCount = warns
          ∧ q.monitor.recoverCount = recovers)
        ∧ (warned → c.confirm ≤ recovers → q.monitor.state = .normal ∧ q.monitor.warnCount = 0
          ∧ q.monitor.recoverCount = 0)
        ∧ (p.locator.active = false → latched = false →
          q.store.opened = p.store.opened.map (fun x => { x with lowest := min x.lowest est })
            ∧ q.locator.latch = (p.locator.latch
              || (m.state == .normal && decide (c.confirm ≤ warns) && t.autoLocate && !p.locator.inert))) := by
  intro m c q trips warns recovers warned within
  have monitor : q.monitor = (((p.judged t est).warnTest t c est).recoverTest c est).monitor :=
    Part.judgeSample_monitor within
  have whole (inactive : (((p.judged t est).warnTest t c est).recoverTest c est).locator.active = false)
      (unlatched : latched = false) : q = ((p.judged t est).warnTest t c est).recoverTest c est :=
    (Part.judgeSample_goesOn within).trans (unlatched ▸ Part.handToLocator_idle inactive t est)
  have judgedIdle (inactive : p.locator.active = false) :=
    Part.warnTest_elsewhere (p := p.judged t est) (t := t) (c := c) (estimate := est) inactive
  have quiet (calm : ¬ warned) : (p.judged t est).warnTest t c est =
      (p.judged t est).modMonitor fun m => { m with warnCount := warns } :=
    Part.warnTest_quiet fun ⟨_, full⟩ => calm (.inr full)
  obtain ⟨tally, state⟩ := (p.judged t est).warnTest_state_tally t c est
  obtain ⟨store, active, latch, tripCount, tripLatch⟩ := ((p.judged t est).warnTest t c est).recoverTest_elsewhere c est
  have warning (h : warned) : ((p.judged t est).warnTest t c est).monitor.state = .warning := by
    rw [state]
    rcases h with st | full
    · have other : ¬ ((p.judged t est).monitor.state = .normal ∧ c.confirm ≤ c.warns (p.judged t est).monitor est) :=
        fun ⟨normal, _⟩ => by cases st.symm.trans normal
      rw [if_neg other]
      exact st
    · rcases judging with normal | st
      · exact if_pos ⟨normal, full⟩
      · split
        · rfl
        · exact st
  have recoversEq : c.recovers ((p.judged t est).warnTest t c est).monitor est = recovers := by
    rw [ContextRecord.recovers, show ((p.judged t est).warnTest t c est).monitor.recoverCount = m.recoverCount from
      congrArg Tally.recover tally]
    rfl
  have warnCount : ((p.judged t est).warnTest t c est).monitor.warnCount = warns := congrArg Tally.warn tally
  rw [monitor]
  refine ⟨tripCount.trans (congrArg Tally.trip tally), tripLatch.trans (congrArg Tally.latch tally), fun calm => ?_,
    fun h short => ?_, fun h full => ?_, fun inactive unlatched => ?_⟩
  · have normal : p.monitor.state = .normal := judging.resolve_right fun st => calm (.inl st)
    rw [quiet calm, Part.recoverTest_other (by show p.monitor.state ≠ .warning; rw [normal]; decide)]
    exact ⟨normal, rfl, rfl, rfl⟩
  · rw [Part.recoverTest_counts (warning h) (recoversEq.symm ▸ short), recoversEq]
    exact ⟨warning h, warnCount, rfl⟩
  · rw [Part.recoverTest_recovers (warning h) (recoversEq.symm ▸ full)]
    obtain ⟨normal, cleared⟩ := Part.enterMonitor_state_tally (((p.judged t est).warnTest t c est).modMonitor
      fun m => { m with warnCount := 0, recoverCount := 0 }) .normal none
    exact ⟨normal, congrArg Tally.warn cleared, congrArg Tally.recover cleared⟩
  · obtain ⟨kept, idle, latched⟩ := judgedIdle inactive
    rw [whole (active.trans idle) unlatched]
    exact ⟨congrArg RecordStore.opened (store.trans kept), latch.trans latched⟩

end Sys2Proof.Machine
end

section
/-! PROOFS. The trip (O17): what it closes and ends, and what stands at the end of the event. -/

namespace Sys2Proof.Machine

/-! ## Heating and the arbiter leave Locator and records alone -/

/-- What bursts and grants leave alone beyond `aside`. -/
structure Archive where
  locator : Locator
  store : RecordStore

/-- What bursts and grants leave alone, read from the part. -/
def Part.archive (p : Part) : Archive := ⟨p.locator, p.store⟩

@[simp] theorem Part.queueDrive_archive (p : Part) (d : Drive) : (p.queueDrive d).archive = p.archive := by
  unfold Part.queueDrive
  split <;> rfl

@[simp] theorem Part.endBurst_archive (p : Part) (e : Ending) (z : Zone) : (p.endBurst e z).archive = p.archive := by
  unfold Part.endBurst
  split
  · exact Part.queueDrive_archive _ _
  · rfl

@[simp] theorem Part.endBurstsOf_archive (e : Ending) (zs : List Zone) (p : Part) :
    (Part.endBurstsOf e zs p).archive = p.archive := by
  induction zs generalizing p with
  | nil => rfl
  | cons z zs ih => rw [Part.endBurstsOf, ih, Part.endBurst_archive]

@[simp] theorem Part.enterFrom_archive (t : HeatTable) (zs : List Zone) (p : Part) :
    (Part.enterFrom t zs p).archive = p.archive := by
  induction zs generalizing p with
  | nil => rfl
  | cons z zs ih =>
    rw [Part.enterFrom]
    split
    · rw [ih]
      exact Part.queueDrive_archive _ _
    · rfl

@[simp] theorem Part.setDemand_archive (p : Part) (z : Zone) (flag : Bool) : (p.setDemand z flag).archive = p.archive := by
  unfold Part.setDemand
  cases (p.zone z).state <;> cases flag <;> rfl

@[simp] theorem Part.settleHeat_archive (p : Part) : p.settleHeat.archive = p.archive := by
  unfold Part.settleHeat
  dsimp only
  split
  · simp only [Part.evalDemand, Part.setDemand_archive]
    rfl
  · rfl

@[simp] theorem Part.enterBursts_archive (p : Part) : p.enterBursts.archive = p.archive := by
  unfold Part.enterBursts
  split
  · rfl
  · exact Part.enterFrom_archive _ _ _

@[simp] theorem Part.recompute_archive (p : Part) : p.recompute.archive = p.archive := by
  show p.cutBursts.archive = p.archive
  unfold Part.cutBursts
  split
  · rfl
  · exact Part.endBurstsOf_archive _ _ _

@[simp] theorem Part.settleBudget_archive (p : Part) : p.settleBudget.archive = p.archive := by
  have checked : p.setFigures.checkOverdrawn.archive = p.archive := by
    unfold Part.checkOverdrawn
    dsimp only
    split <;> rfl
  unfold Part.settleBudget Part.recomputeAndHandOver
  dsimp only
  split
  · split <;> simp [checked]
  · exact checked

@[simp] theorem Part.settleDraw_archive (p : Part) : p.settleDraw.archive = p.archive := by
  have inlet (q : Part) : q.clampInlet.archive = q.archive := by
    unfold Part.clampInlet
    split
    · rfl
    · split
      · exact Part.queueDrive_archive _ _
      · rfl
  have converter (q : Part) : q.clampConverter.archive = q.archive := by
    unfold Part.clampConverter
    split
    · rfl
    · split
      · exact Part.queueDrive_archive _ _
      · rfl
  unfold Part.settleDraw
  rw [inlet, converter]
  rfl

theorem Part.locator_of_archive {p q : Part} (h : q.archive = p.archive) : q.locator = p.locator :=
  congrArg Archive.locator h

theorem Part.store_of_archive {p q : Part} (h : q.archive = p.archive) : q.store = p.store :=
  congrArg Archive.store h

/-! ## The end of an event in which the monitor stands TRIPPED and the session CLOSED -/

/-- The states that a trip settles. -/
structure Outline where
  monitor : MonitorState
  tally : Tally
  session : SessionState
  locator : Locator

/-- The states that a trip settles, read from the part. -/
def Part.outline (p : Part) : Outline := ⟨p.monitor.state, p.monitor.tally, p.session.state, p.locator⟩

/-- The monitor stands TRIPPED and the session CLOSED. -/
def Outline.shut (o : Outline) : Prop := o.monitor = .tripped ∧ o.session = .closed

theorem Part.intoContext_outline (p : Part) (c : Context) : (p.intoContext c).outline = p.outline := by
  obtain ⟨state, tally⟩ := (p.modMonitor fun m => { m with context := c }).syncMode_state_tally
  obtain ⟨session, -, locator, -⟩ := (p.modMonitor fun m => { m with context := c }).syncMode_elsewhere
  unfold Part.outline Part.intoContext
  rw [state, tally, session, locator]
  rfl

/-- R76, R126: a round moves nothing of it but the context. -/
theorem Part.round_outline {p : Part} (shut : p.outline.shut) : p.round.outline = p.outline := by
  obtain ⟨tripped, closed⟩ := shut
  have waiting : p.plugWait = p := p.plugWait_elsewhere (by rw [show p.session.state = .closed from closed]; decide)
  have other : ¬ (p.monitor.state = .settling ∨ p.monitor.state = .normal ∨ p.monitor.state = .warning) := by
    rw [show p.monitor.state = .tripped from tripped]
    decide
  unfold Part.round
  rw [waiting]
  by_cases same : p.contextNow = p.monitor.context
  · rw [Part.examineContext_same same]
  · rw [Part.examineContext_other same other, Part.intoContext_outline]

theorem Part.queueDrive_outline (p : Part) (d : Drive) : (p.queueDrive d).outline = p.outline := by
  unfold Part.queueDrive
  split <;> rfl

theorem Part.decideBranches_outline (p : Part) : p.decideBranches.outline = p.outline := by
  have decided : p.withDecided.outline = p.outline := rfl
  rw [Part.decideBranches_eq]
  dsimp only
  split <;> split <;> simp only [Part.queueDrive_outline, decided]

theorem Part.outline_of_kept {p q : Part} (wired : q.wired = p.wired) (archive : q.archive = p.archive) :
    q.outline = p.outline := by
  have monitor : q.monitor = p.monitor := congrArg Wired.monitor wired
  have session : q.session = p.session := congrArg Wired.session wired
  unfold Part.outline
  rw [monitor, session, Part.locator_of_archive archive]

theorem Part.settleDraw_outline (p : Part) : p.settleDraw.outline = p.outline := by
  have state : p.settleDraw.session.state = p.session.state := by rw [p.settleDraw_sets.2.1]
  unfold Part.outline
  rw [p.settleDraw_keeps.2.2.2.2, state, Part.locator_of_archive p.settleDraw_archive]

/-- What stands TRIPPED and CLOSED before the end of the event stands so after it. -/
theorem Part.finish_outline {p : Part} (shut : p.outline.shut) : p.finish.outline = p.outline := by
  have once : p.round.outline = p.outline := Part.round_outline shut
  have twice : p.round.round.outline = p.outline := (Part.round_outline (once ▸ shut)).trans once
  have thrice : p.round.round.round.outline = p.outline := (Part.round_outline (twice ▸ shut)).trans twice
  unfold Part.finish
  rw [Part.settleDraw_outline, Part.outline_of_kept (Part.settleBudget_wired _) (Part.settleBudget_archive _),
    Part.outline_of_kept (Part.settleHeat_wired _) (Part.settleHeat_archive _), Part.decideBranches_outline, thrice]

/-- R21, R23, R55: with the monitor TRIPPED a decided part has every branch commanded OPEN, the safe line low and no
source. -/
theorem Part.open_of_tripped {q : Part} (decided : q.switchesDecided) (figures : q.figures = q.figuresNow)
    (tripped : q.monitor.state = .tripped) :
    (∀ b, (q.branch b).commanded = false) ∧ q.drive.safeLine = false ∧ q.budget.source = .none := by
  obtain ⟨branches, line⟩ := decided
  have opened (b : Branch) : (q.branch b).commanded = false := by
    rw [branches b]
    simp [Part.shouldClose, BranchEntry.closes, Part.tripped, tripped]
  have source : q.budget.source = q.sourceNow := congrArg Figures.source figures
  refine ⟨opened, line.trans (opened .main), source.trans ?_⟩
  rw [Part.sourceNow_eq]
  exact if_pos (.inr tripped)

/-! ## A session's end at a trip (R91, R92, R133) -/

theorem Part.closeSession_state (p : Part) : p.closeSession.session.state = .closed := rfl

/-- R165: the OPEN record joins the CLOSED ones with its number, lowest reading and cause. -/
theorem Part.closeRecord_closed {p : Part} {x : Record} (opened : p.store.opened = some x) :
    ∃ y ∈ p.closeRecord.store.closed, y.number = x.number ∧ y.lowest = x.lowest ∧ y.cause = x.cause := by
  have final : (p.finalRecord x).number = x.number ∧ (p.finalRecord x).lowest = x.lowest
      ∧ (p.finalRecord x).cause = x.cause := by
    unfold Part.finalRecord
    cases p.meter.segment <;> exact ⟨rfl, rfl, rfl⟩
  refine ⟨p.finalRecord x, ?_, final⟩
  unfold Part.closeRecord
  rw [opened]
  exact List.mem_append_right _ (List.mem_singleton.mpr rfl)

theorem Part.closeSession_closed {p : Part} {x : Record} (opened : p.store.opened = some x) :
    ∃ y ∈ p.closeSession.store.closed, y.number = x.number ∧ y.lowest = x.lowest ∧ y.cause = x.cause :=
  Part.closeRecord_closed opened

/-- R92: a tail that is cut closes the session and its record. -/
theorem Part.cutTail_closes {p : Part} (ending : p.session.state = .ending) :
    p.cutTail.session.state = .closed ∧ ∀ x, p.store.opened = some x →
      ∃ y ∈ p.cutTail.store.closed, y.number = x.number ∧ y.lowest = x.lowest ∧ y.cause = x.cause := by
  unfold Part.cutTail
  rw [if_pos ending]
  refine ⟨Part.closeSession_state _, fun x opened => ?_⟩
  split
  · exact Part.closeSession_closed (x := { x with flags := { x.flags with tailCut := true } })
      (by simp [Part.flagRecord, Part.modRecord, opened])
  · exact Part.closeSession_closed opened

/-- R91, R92: at a trip no tail is taken. -/
theorem Part.beginTail_closes {p : Part} (tripped : p.monitor.state = .tripped) (ending : p.session.state = .ending) :
    p.beginTail.session.state = .closed ∧ ∀ x, p.store.opened = some x →
      ∃ y ∈ p.beginTail.store.closed, y.number = x.number ∧ y.lowest = x.lowest ∧ y.cause = x.cause := by
  have impossible : p.tailImpossible = true := by simp [Part.tailImpossible, Part.tripped, tripped]
  unfold Part.beginTail
  rw [if_pos impossible]
  split
  · exact ⟨p.closeSession_state, fun x opened => Part.closeSession_closed opened⟩
  · exact Part.cutTail_closes ending

/-- R133: the trip closes the session, with its record under cause INSULATION when it was running. -/
theorem Part.sessionTrip_closes {p : Part} (tripped : p.monitor.state = .tripped) :
    p.sessionTrip.session.state = .closed ∧ ∀ x, p.store.opened = some x → p.session.state.running = true →
      ∃ y ∈ p.sessionTrip.store.closed, y.number = x.number ∧ y.lowest = x.lowest ∧ y.cause = some .insulation := by
  unfold Part.sessionTrip
  split
  · next running =>
    unfold Part.terminate
    rw [if_pos running]
    generalize told : ((((p.modSession fun s => s.terminated .insulation).modRecord
      fun r => { r with cause := some .insulation }).enterSession .ending).releaseInlet) = q
    have ending : q.session.state = .ending := told ▸ rfl
    have still : q.monitor.state = .tripped := told ▸ tripped
    obtain ⟨closed, record⟩ := Part.beginTail_closes still ending
    refine ⟨closed, fun x opened _ => record { x with cause := some .insulation } ?_⟩
    rw [← told]
    exact congrArg (Option.map fun r : Record => { r with cause := some .insulation }) opened
  · next idle =>
    refine ⟨?_, fun x _ running => absurd running idle⟩
    cases st : p.session.state with
    | ending => exact (Part.cutTail_closes st).1
    | closed =>
      rw [show p.cutTail = p from if_neg (by rw [st]; decide)]
      exact st
    | plugWait | connecting | preheat | charging | suspended => rw [st] at idle; exact absurd rfl idle

/-! ## Bursts and the procedure at a trip (R110, R152) -/

theorem Part.stateAfter_ne_burst (p : Part) (z : Zone) (e : Ending) : p.stateAfter z e ≠ .burst := by
  unfold Part.stateAfter
  split
  · decide
  · split <;> decide

theorem Part.queueDrive_heat (p : Part) (d : Drive) : (p.queueDrive d).heat = p.heat := by
  unfold Part.queueDrive
  split <;> rfl

/-- R107: a burst that ends leaves BURST with its ending noted. -/
theorem Part.endBurst_same {p : Part} {e : Ending} {z : Zone} (burst : (p.zone z).state = .burst) :
    ((p.endBurst e z).zone z).state ≠ .burst ∧ ((p.endBurst e z).zone z).lastEnding = some e := by
  unfold Part.endBurst
  rw [if_pos burst]
  dsimp only
  unfold Part.queueHeatSet Part.zone
  simp only [Part.raise, Part.modMgmt_heat, Part.queueDrive_heat, Part.modHeat_heat, Part.modZone_heat,
    PerZone.get_set_same]
  exact ⟨p.stateAfter_ne_burst z e, trivial⟩

theorem Part.endBurst_other (p : Part) (e : Ending) {y z : Zone} (other : y ≠ z) :
    (p.endBurst e z).zone y = p.zone y := by
  unfold Part.endBurst
  split
  · dsimp only
    unfold Part.queueHeatSet Part.zone
    simp only [Part.raise, Part.modMgmt_heat, Part.queueDrive_heat, Part.modHeat_heat, Part.modZone_heat,
      PerZone.get_set_other _ _ _ _ other]
  · rfl

/-- A zone not in BURST is left alone by the endings of bursts. -/
theorem Part.endBurstsOf_idle (e : Ending) (zs : List Zone) (p : Part) {y : Zone} (idle : (p.zone y).state ≠ .burst) :
    (Part.endBurstsOf e zs p).zone y = p.zone y := by
  induction zs generalizing p with
  | nil => rfl
  | cons z zs ih =>
    have same : (p.endBurst e z).zone y = p.zone y := by
      by_cases here : y = z
      · rw [show p.endBurst e z = p from if_neg (here ▸ idle)]
      · exact p.endBurst_other e here
    rw [Part.endBurstsOf, ih _ (same ▸ idle), same]

/-- Each zone in BURST among those given ends its burst. -/
theorem Part.endBurstsOf_ends (e : Ending) (zs : List Zone) (p : Part) {y : Zone} (among : y ∈ zs)
    (burst : (p.zone y).state = .burst) :
    ((Part.endBurstsOf e zs p).zone y).state ≠ .burst ∧ ((Part.endBurstsOf e zs p).zone y).lastEnding = some e := by
  induction zs generalizing p with
  | nil => cases among
  | cons z zs ih =>
    rw [Part.endBurstsOf]
    by_cases here : y = z
    · subst here
      obtain ⟨left, ending⟩ := Part.endBurst_same (e := e) burst
      rw [Part.endBurstsOf_idle e zs _ left]
      exact ⟨left, ending⟩
    · exact ih _ ((List.mem_cons.mp among).resolve_left here) ((p.endBurst_other e here).symm ▸ burst)

/-- R83: a cause that leaves a CLOSED session resumes nothing. -/
theorem Part.removeCause_of_closed {p : Part} (closed : p.session.state = .closed) (c : Suspension) :
    (p.removeCause c).session.state = .closed ∧ (p.removeCause c).store = p.store := by
  have stays (q : Part) (h : q.session.state = .closed) :
      (if q.session.state = .suspended && q.session.causes.isEmpty then q.resumeSession else q) = q :=
    if_neg (by simp [h])
  unfold Part.removeCause
  dsimp only
  rw [stays (p.modSession fun s => { s with causes := s.causes.put c false }) closed]
  split
  · exact ⟨closed, rfl⟩
  · exact ⟨closed, rfl⟩

/-- R152, R153: an abandoned procedure, with the session CLOSED. -/
theorem Part.abandon_of_closed {p : Part} (closed : p.session.state = .closed) (reason : AbandonReason) :
    let q := p.abandon reason
    q.monitor = p.monitor ∧ q.session.state = .closed ∧ q.store = p.store ∧ (∀ z, q.zone z = p.zone z)
      ∧ q.locator.active = false := by
  intro q
  show (p.abandon reason).monitor = _ ∧ (p.abandon reason).session.state = _ ∧ (p.abandon reason).store = _
    ∧ (∀ z, (p.abandon reason).zone z = _) ∧ (p.abandon reason).locator.active = _
  have cleared : p.clearTestedShed.session = p.session ∧ p.clearTestedShed.store = p.store
      ∧ p.clearTestedShed.monitor = p.monitor ∧ p.clearTestedShed.heat = p.heat := by
    unfold Part.clearTestedShed
    split <;> exact ⟨rfl, rfl, rfl, rfl⟩
  unfold Part.abandon
  cases active : p.locator.active with
  | false => exact ⟨rfl, closed, rfl, fun _ => rfl, active⟩
  | true =>
    rw [if_pos rfl]
    generalize p.clearTestedShed = u at cleared
    obtain ⟨session, store, monitor, heat⟩ := cleared
    unfold Part.endProcedure
    dsimp only
    generalize told : (((u.modLocator fun l => { l with latch := reason.latches }).modLocator
      fun l => { l with active := false }).modBudget
        fun b => { b with freeze := false, recomputeDue := true }).raise _ = v
    have vClosed : v.session.state = .closed := by rw [← told]; exact (congrArg Session.state session).trans closed
    have vStore : v.store = p.store := by rw [← told]; exact store
    have vMonitor : v.monitor = p.monitor := by rw [← told]; exact monitor
    have vHeat : v.heat = p.heat := by rw [← told]; exact heat
    have vIdle : v.locator.active = false := by rw [← told]; rfl
    obtain ⟨stays, kept⟩ := Part.removeCause_of_closed vClosed .locate
    have beside := v.removeCause_beside .locate
    have zones : (v.removeCause .locate).heat.zones = p.heat.zones :=
      congrArg Heating.zones ((Part.heat_of_beside beside).trans vHeat)
    refine ⟨(Part.monitor_of_beside beside).trans vMonitor, stays, kept.trans vStore, fun z => ?_,
      (congrArg Locator.active (Part.locator_of_beside beside)).trans vIdle⟩
    exact congrArg (fun zs : PerZone ZoneContext => zs.get z) zones

/-! ## The trip (R133) -/

/-- R133: what the trip leaves of monitor, session and Locator. -/
theorem Part.trip_outline (p : Part) (reading threshold : Nat) :
    let q := p.trip reading threshold
    q.monitor.state = .tripped ∧ q.monitor.tally = ⟨0, 0, 0, p.monitor.settleTaken, true⟩
      ∧ q.session.state = .closed ∧ q.locator.active = false ∧ q.locator.latch = false
      ∧ (∀ z ∈ p.heat.burstOrder, (p.zone z).state = .burst →
        (q.zone z).state ≠ .burst ∧ (q.zone z).lastEnding = some .tripped)
      ∧ ∀ x, p.store.opened = some x → p.session.state.running = true →
        ∃ y ∈ q.store.closed, y.number = x.number ∧ y.lowest = x.lowest ∧ y.cause = some .insulation := by
  have entered := (p.modMonitor fun m => { m.countersCleared with tripLatch := true }).enterMonitor_state_tally
    .tripped none
  have elsewhere := (p.modMonitor fun m => { m.countersCleared with tripLatch := true }).enterMonitor_elsewhere
    .tripped none
  unfold Part.trip
  dsimp only
  generalize ((p.modMonitor fun m => { m.countersCleared with tripLatch := true }).enterMonitor .tripped none) = q
    at entered elsewhere
  obtain ⟨state, tally⟩ := entered
  obtain ⟨session, store, heat, -⟩ := elsewhere
  generalize told : q.raise (.tripChange true p.monitor.context reading (some threshold)) = u
  have uMonitor : u.monitor = q.monitor := by rw [← told]; rfl
  have uSession : u.session = p.session := by rw [← told]; exact session
  have uStore : u.store = p.store := by rw [← told]; exact store
  have uHeat : u.heat = { p.heat with demandDue := true } := by rw [← told]; exact heat
  obtain ⟨closed, record⟩ := Part.sessionTrip_closes (p := u) (by rw [uMonitor, state])
  have beside := u.sessionTrip_beside
  generalize u.sessionTrip = v at closed record beside
  have vHeat : v.heat = { p.heat with demandDue := true } := (Part.heat_of_beside beside).trans uHeat
  have aside := Part.endBurstsOf_aside .tripped v.heat.burstOrder v
  have wStore := Part.store_of_archive (Part.endBurstsOf_archive .tripped v.heat.burstOrder v)
  have ends (z : Zone) := Part.endBurstsOf_ends .tripped v.heat.burstOrder v (y := z)
  have vZones : v.heat.zones = p.heat.zones := by rw [vHeat]
  have zone (z : Zone) : v.zone z = p.zone z := congrArg (fun zs : PerZone ZoneContext => zs.get z) vZones
  have order : v.heat.burstOrder = p.heat.burstOrder := by rw [vHeat]
  unfold Part.endBursts
  generalize Part.endBurstsOf .tripped v.heat.burstOrder v = w at aside wStore ends
  have wMonitor : w.monitor = q.monitor :=
    (congrArg (fun a : Wired × Budget => a.1.monitor) aside).trans ((Part.monitor_of_beside beside).trans uMonitor)
  have wClosed : w.session.state = .closed :=
    (congrArg (fun a : Wired × Budget => a.1.session.state) aside).trans closed
  obtain ⟨monitor, shut, kept, zones, inactive⟩ := Part.abandon_of_closed wClosed .trip
  have same : (w.abandon .trip).monitor = q.monitor := monitor.trans wMonitor
  refine ⟨(congrArg Monitor.state same).trans state, (congrArg Monitor.tally same).trans tally, shut, inactive, rfl,
    fun z among burst => ?_, fun x opened running => ?_⟩
  · have ended := ends z (order.symm ▸ among) ((zone z).symm ▸ burst)
    exact (zones z).symm ▸ ended
  · have closedRecords : (w.abandon .trip).store = v.store := kept.trans wStore
    obtain ⟨y, among, fields⟩ := record x (uStore.symm ▸ opened) (uSession.symm ▸ running)
    exact ⟨y, (congrArg RecordStore.closed closedRecords).symm ▸ among, fields⟩

end Sys2Proof.Machine
end

section
/-! PROOFS. What a used sample replaces and what its readings do (O17), put together. -/

namespace Sys2Proof.Machine

/-- What stands at the end of the event in which the monitor has tripped and the session closed. -/
theorem Part.finish_of_trip {q : Part} (tripped : q.monitor.state = .tripped) {settled : Nat}
    (tally : q.monitor.tally = ⟨0, 0, 0, settled, true⟩) (closed : q.session.state = .closed)
    (inactive : q.locator.active = false) (unlatched : q.locator.latch = false) :
    let f := q.finish
    f.monitor.state = .tripped ∧ f.monitor.tripLatch = true ∧ f.monitor.tripCount = 0
      ∧ f.monitor.warnCount = 0 ∧ f.monitor.recoverCount = 0
      ∧ (∀ b, (f.branch b).commanded = false) ∧ f.drive.safeLine = false
      ∧ f.session.state = .closed ∧ f.budget.source = .none
      ∧ f.locator.active = false ∧ f.locator.latch = false := by
  have outline : q.finish.outline = q.outline := Part.finish_outline ⟨tripped, closed⟩
  have decided := q.finish_switchesDecided
  have figures := q.finish_figures
  generalize q.finish = f at outline decided figures
  have stays : f.monitor.state = .tripped := (congrArg Outline.monitor outline).trans tripped
  have counts : f.monitor.tally = ⟨0, 0, 0, settled, true⟩ := (congrArg Outline.tally outline).trans tally
  have locator : f.locator = q.locator := congrArg Outline.locator outline
  obtain ⟨opened, line, source⟩ := Part.open_of_tripped decided figures stays
  exact ⟨stays, congrArg Tally.latch counts, congrArg Tally.trip counts, congrArg Tally.warn counts,
    congrArg Tally.recover counts, opened, line, (congrArg Outline.session outline).trans closed, source,
    (congrArg Locator.active locator).trans inactive, (congrArg Locator.latch locator).trans unlatched⟩

/-- R133: the sample that trips the monitor, and the end of its event. -/
theorem Part.judgeSample_trip_cases (p : Part) (t : InsulationTable) (est : Nat) (latched : Bool) :
    let c := t.record p.monitor.context
    let q := p.judgeSample t est latched
    let trips := if est < c.trip then p.monitor.tripCount + 1 else 0
    c.confirm ≤ trips →
      let f := q.finish
      f.monitor.state = .tripped ∧ f.monitor.tripLatch = true ∧ f.monitor.tripCount = 0
        ∧ f.monitor.warnCount = 0 ∧ f.monitor.recoverCount = 0
        ∧ (∀ b, (f.branch b).commanded = false) ∧ f.drive.safeLine = false
        ∧ f.session.state = .closed ∧ f.budget.source = .none
        ∧ f.locator.active = false ∧ f.locator.latch = false
        ∧ (∀ z ∈ p.heat.burstOrder, (p.zone z).state = .burst →
          (q.zone z).state ≠ .burst ∧ (q.zone z).lastEnding = some .tripped)
        ∧ (∀ x, p.store.opened = some x → p.session.state.running = true →
          ∃ y ∈ q.store.closed, y.number = x.number ∧ y.lowest = min x.lowest est
            ∧ y.cause = some .insulation) := by
  intro c q trips confirmed
  have tripped : q = (p.judged t est).trip est c.trip := Part.judgeSample_trips confirmed
  obtain ⟨state, tally, closed, inactive, unlatched, bursts, record⟩ := (p.judged t est).trip_outline est c.trip
  rw [← tripped] at state tally closed inactive unlatched bursts record
  have lowered (x : Record) (opened : p.store.opened = some x) :
      (p.judged t est).store.opened = some { x with lowest := min x.lowest est } := by
    show p.store.opened.map _ = _
    rw [opened]
    rfl
  obtain ⟨stands, latch, trip, warn, recover, opened, line, shut, source, idle, noRequest⟩ :=
    Part.finish_of_trip state tally closed inactive unlatched
  exact ⟨stands, latch, trip, warn, recover, opened, line, shut, source, idle, noRequest, bursts,
    fun x opened running => record _ (lowered x opened) running⟩

/-- Settles O17: the Node Table after a used sample, and role by role what its readings do. -/
theorem usedSampleReplacesReadings : Obligations.UsedSampleReplacesReadings := by
  refine ⟨Part.useSample_nodes, Part.useSample_eq,
    fun p => ⟨p.bandPowerNow_eq, p.moveByBand_eq, p.checkFull_eq, p.stopSoc_eq, p.enterSession_eq⟩, ?_, ?_,
    Part.takeHeatOn_eq, ?_, Part.takeInjector_returned, ?_⟩
  · intro p x q judged
    have judgement : q.judgeInlet x = judged := q.judgeInlet_eq x
    rw [← judgement]
    rfl
  · intro p readings took owns told
    have tells (q : Part) (r : Branch × Bool) : q.tellFeedback r.1 r.2 ((p.branch r.1).judge r.2) = told r.1 r.2 q :=
      q.tellFeedback_eq r.1 r.2 (p.branch r.1)
    unfold Part.takeSwitches
    simp only [tells]
    rfl
  · intro p r returned again q back
    have settled : p.settledBack r.echo returned = back := by
      have echoed : p.echoed r.echo returned = q := by cases returned <;> rfl
      unfold Part.settledBack
      rw [echoed]
    have whole := p.takeInjector_eq r returned
    rw [settled] at whole
    exact ⟨fun none => by rw [whole, none], fun t table => by rw [whole, table]⟩
  · intro p t r latched m est c noted q low high trips warns recovers warned
    refine ⟨fun off => ?_, Part.countedSample_noted, Part.countedSample_modeBack, fun checking outside => ?_,
      fun checking above below => ?_, Part.countedSample_settling, fun judging => ?_⟩
    · show p.countedSample t r latched = p
      unfold Part.countedSample
      rw [off]
    · show p.countedSample t r latched = _
      rw [Part.countedSample_checking checking, Part.checkSample_outside outside]
      rfl
    · intro passed
      show p.countedSample t r latched = _
      rw [Part.countedSample_checking checking, Part.checkSample_inside ⟨above, below⟩]
      rfl
    · have judged : q = p.judgeSample t est latched := Part.countedSample_judges judging
      rw [judged]
      exact ⟨p.judgeSample_cases t est latched judging, p.judgeSample_trip_cases t est latched⟩

end Sys2Proof.Machine
end

section
/-! PROOFS. What a step can do to the figures that the end of an event settles: it leaves them, settles them, hands
port B on, or starts the part afresh. An invariant that each of the four keeps is kept by every step; the switches
as the branch rule decides them (O5) are one. -/

namespace Sys2Proof.Machine

/-! ## The figures that the end of an event settles -/

/-- What the branch rule, the grants and the draw limit speak of. -/
structure Settled where
  branches : PerBranch BranchEntry
  safeLine : Bool
  partState : PartState
  monitor : Monitor
  sessionState : SessionState
  drawLimit : Nat
  budget : Budget
  livePack : Option PackReadings
  clamp : OrderClamp

/-- What the branch rule, the grants and the draw limit speak of, read from the part. -/
def Part.settled (p : Part) : Settled :=
  ⟨p.drive.branches, p.drive.safeLine, p.mgmt.partState, p.monitor, p.session.state, p.session.drawLimit, p.budget,
    p.livePack, p.clamp⟩

theorem Part.modMgmt_settled (p : Part) (g : Management → Management) (h : (g p.mgmt).partState = p.mgmt.partState) :
    (p.modMgmt g).settled = p.settled := by
  simp only [Part.settled, Part.modMgmt_mgmt, h]
  rfl

theorem Part.raise_settled (p : Part) (b : NoticeBody) : (p.raise b).settled = p.settled :=
  p.modMgmt_settled _ (congrArg Wired.partState (p.raise_wired b))

theorem Part.storeLowCheck_settled (p : Part) (n : Nat) : (p.storeLowCheck n).settled = p.settled := by
  unfold Part.storeLowCheck
  split
  · exact p.raise_settled _
  · rfl

theorem Part.closeRecord_settled (p : Part) : p.closeRecord.settled = p.settled := by
  unfold Part.closeRecord
  split <;> rfl

/-- R161: a record opens in the Record Store and the Metering Unit. -/
theorem Part.openRecord_settled (p : Part) (ordinal : Nat) (tags : Tags) (kind : Kind) (continuation : Bool) (n : Nat) :
    (p.openRecord ordinal tags kind continuation n).settled = p.settled :=
  Part.storeLowCheck_settled _ _

/-- R96: a split leaves the session's state and its draw limit. -/
theorem Part.split_settled (p : Part) (tags : Tags) : (p.split tags).settled = p.settled :=
  (Part.openRecord_settled _ _ _ _ _ _).trans ((Part.raise_settled _ _).trans (Part.closeRecord_settled _))

/-- R113: a heat pending change that fails is a matter of its zone alone. -/
theorem Part.failHeatChange_settled (p : Part) (z : Zone) : (p.failHeatChange z).settled = p.settled :=
  Part.raise_settled _ _

theorem Part.enqueueCommand_settled (p : Part) (f : Frame) : (p.enqueueCommand f).settled = p.settled := by
  unfold Part.enqueueCommand
  split
  · rfl
  · split <;> rfl

/-- R10: a frame from the GATEWAY concerns no reading of the pack. -/
theorem Part.noteGateway_settled (p : Part) (f : Frame) : (p.noteGateway f).settled = p.settled := by
  unfold Part.noteGateway
  split
  · rfl
  · next e entry =>
    have gateway : e.role = .gateway := by simpa using List.find?_some entry
    split
    · unfold Part.markUsed
      rw [gateway]
      dsimp only
      split
      · rfl
      · exact Part.raise_settled _ _
    · rfl

/-! ## What a step can do -/

/-- What an event makes of a part, as far as those figures go: it leaves them, settles them at its end, hands port B
on, or starts the part afresh. -/
inductive Part.Becomes : Part → Part → Prop
  | kept {p q : Part} : q.settled = p.settled → p.Becomes q
  | settled {p : Part} (q : Part) : p.Becomes q.finish
  | handedOn (p : Part) : p.Becomes p.arbitrate
  | started {p : Part} (strap : BitVec 2) (portB : Option Frame) : p.Becomes (Part.initial strap portB)
  | trans {p q r : Part} : p.Becomes q → q.Becomes r → p.Becomes r

theorem Part.Becomes.refl (p : Part) : p.Becomes p := .kept rfl

/-- An invariant of the settled figures: what the end of every event establishes and nothing else disturbs. -/
structure KeptByEvents (K : Part → Prop) : Prop where
  initial : ∀ strap portB, K (Part.initial strap portB)
  finish : ∀ p : Part, K p.finish
  arbitrate : ∀ p : Part, K p → K p.arbitrate
  congr : ∀ p q : Part, q.settled = p.settled → K p → K q

theorem KeptByEvents.keeps {K : Part → Prop} (kept : KeptByEvents K) {p q : Part} (h : p.Becomes q) (holds : K p) :
    K q := by
  induction h with
  | kept same => exact kept.congr _ _ same holds
  | settled q => exact kept.finish q
  | handedOn p => exact kept.arbitrate p holds
  | started strap portB => exact kept.initial strap portB
  | trans _ _ first second => exact second (first holds)

/-! ## Frames at port A -/

theorem Part.forward_becomes (p : Part) (f : Frame) : p.Becomes (p.forward f) := .kept rfl

theorem Part.examineSample_becomes (p : Part) (f : Frame) : p.Becomes (p.examineSample f) := by
  unfold Part.examineSample
  split
  · exact .refl p
  · split
    · exact .refl p
    · split
      · exact .refl p
      · exact .settled _

theorem Part.routeOrder_becomes (p : Part) (f : Frame) : p.Becomes (p.routeOrder f) := by
  unfold Part.routeOrder
  split
  · exact .kept (p.raise_settled _)
  · split
    · exact .refl p
    · exact p.forward_becomes f

theorem Part.route_becomes (p : Part) (f : Frame) : p.Becomes (p.route f) := by
  unfold Part.route
  split
  case h_1 =>
    split
    · split
      · exact .kept (p.enqueueCommand_settled f)
      · exact .refl p
    · exact p.forward_becomes f
  case h_2 =>
    dsimp only
    split
    · exact p.examineSample_becomes f
    · exact (p.examineSample_becomes f).trans (Part.forward_becomes _ f)
  case h_3 => exact p.routeOrder_becomes f
  case h_4 => exact p.routeOrder_becomes f
  all_goals
    split
    · exact .refl p
    · exact p.forward_becomes f

theorem Part.receive_becomes (p : Part) (bytes : List Byte) : p.Becomes (p.receive bytes) := by
  unfold Part.receive
  split
  · exact .kept rfl
  · next f _ =>
    split
    · exact .refl p
    · exact .trans (.kept (p.noteGateway_settled f)) (Part.route_becomes _ f)

/-! ## Commands -/

/-- What the work of a command makes of the part. -/
def Reply.follows (p : Part) : Reply → Prop
  | .silent => True
  | .answer after _ _ => p.Becomes after
  | .hold after => p.Becomes after

theorem Part.refuse_follows (p : Part) (status : Status) : (p.refuse status).follows p := .refl p

/-- An answer after an event that ends in the work. -/
theorem Reply.answer_finish_follows {p : Part} (q : Part) (status : Status) (fields : List Byte) :
    (Reply.answer q.finish status fields).follows p := .settled q

/-- An answer after effects outside the settled figures. -/
theorem Reply.answer_follows {p after : Part} (status : Status) (fields : List Byte)
    (same : after.settled = p.settled) : (Reply.answer after status fields).follows p := .kept same

/-- R177, R179: the queues that a reply moves hold nothing of the settled figures. -/
theorem respond_becomes {c : Frame} {p : Part} {r : Reply} (h : r.follows p) : p.Becomes (respond c p r) := by
  cases r with
  | silent => exact .kept rfl
  | answer after status fields => exact .trans h (.kept rfl)
  | hold after => exact h

end Sys2Proof.Machine
end

section
namespace Sys2Proof.Machine

/-! ## The works of the Management Unit -/

theorem statusWork_follows (p : Part) (c : Frame) : (statusWork p c).follows p := by
  unfold statusWork
  split
  · exact Reply.answer_follows _ _ rfl
  · exact Reply.answer_follows _ _ rfl
  · exact p.refuse_follows _

theorem releaseWork_follows (p : Part) (c : Frame) : (releaseWork p c).follows p := by
  unfold releaseWork
  split
  · exact p.refuse_follows _
  · split
    · exact Reply.answer_follows _ _ rfl
    · exact Reply.answer_finish_follows _ _ _

theorem sleepWork_follows (p : Part) (c : Frame) : (sleepWork p c).follows p := by
  unfold sleepWork
  dsimp only
  iterate 4
    split
    · exact p.refuse_follows _
  exact Reply.answer_finish_follows _ _ _

theorem wakeWork_follows (p : Part) (c : Frame) : (wakeWork p c).follows p := by
  unfold wakeWork
  split
  · exact Reply.answer_finish_follows _ _ _
  · exact p.refuse_follows _

theorem configureMemoryWork_follows (p : Part) (c : Frame) : (configureMemoryWork p c).follows p := by
  unfold configureMemoryWork
  dsimp only
  iterate 2
    split
    · exact p.refuse_follows _
  exact Reply.answer_follows _ _ rfl

theorem setNoticeMaskWork_follows (p : Part) (c : Frame) : (setNoticeMaskWork p c).follows p := by
  unfold setNoticeMaskWork
  dsimp only
  split
  · exact p.refuse_follows _
  · exact Reply.answer_follows _ _ rfl

theorem setClockWork_follows (p : Part) (c : Frame) : (setClockWork p c).follows p := by
  unfold setClockWork
  dsimp only
  split
  · exact p.refuse_follows _
  · exact Reply.answer_finish_follows _ _ _

theorem resetLinkWork_follows (p : Part) (c : Frame) : (resetLinkWork p c).follows p := by
  unfold resetLinkWork
  split
  · exact Reply.answer_follows _ _ rfl
  · exact p.refuse_follows _

/-! ## The works of staging -/

theorem loadBeginWork_follows (p : Part) (c : Frame) : (loadBeginWork p c).follows p := by
  unfold loadBeginWork
  dsimp only
  iterate 4
    split
    · exact p.refuse_follows _
  refine Reply.answer_follows _ _ ?_
  split
  · exact Part.storeLowCheck_settled _ _
  · rfl

theorem loadDataWork_follows (p : Part) (c : Frame) : (loadDataWork p c).follows p := by
  unfold loadDataWork
  dsimp only
  split
  · exact p.refuse_follows _
  · split
    · exact p.refuse_follows _
    · exact Reply.answer_follows _ _ rfl

theorem loadCommitWork_follows (p : Part) (c : Frame) : (loadCommitWork p c).follows p := by
  unfold loadCommitWork
  iterate 3
    split
    · exact p.refuse_follows _
  exact Part.Becomes.kept rfl

/-- R186: a reading, whatever it answers. -/
theorem readTableWork_follows (p : Part) (c : Frame) : (readTableWork p c).follows p := by
  unfold readTableWork
  dsimp only
  iterate 3
    split
    · exact p.refuse_follows _
  exact Reply.answer_follows _ _ rfl

/-! ## The works of the session and its records -/

theorem openSessionWork_follows (p : Part) (c : Frame) : (openSessionWork p c).follows p := by
  unfold openSessionWork
  dsimp only
  iterate 9
    split
    · exact p.refuse_follows _
  exact Reply.answer_finish_follows _ _ _

theorem pauseWork_follows (p : Part) (c : Frame) : (pauseWork p c).follows p := by
  unfold pauseWork
  split
  · exact p.refuse_follows _
  · exact p.refuse_follows _
  · exact Reply.answer_finish_follows _ _ _

theorem resumeWork_follows (p : Part) (c : Frame) : (resumeWork p c).follows p := by
  unfold resumeWork
  split
  · exact p.refuse_follows _
  · exact p.refuse_follows _
  · exact Reply.answer_finish_follows _ _ _

theorem abortWork_follows (p : Part) (c : Frame) : (abortWork p c).follows p := by
  unfold abortWork
  split
  · exact p.refuse_follows _
  · exact Reply.answer_finish_follows _ _ _

theorem splitWork_follows (p : Part) (c : Frame) : (splitWork p c).follows p := by
  unfold splitWork
  split
  · exact p.refuse_follows _
  · exact p.refuse_follows _
  · exact p.refuse_follows _
  · split
    · exact Reply.answer_follows _ _ rfl
    · exact Reply.answer_follows _ _ (p.split_settled _)

theorem readRecordWork_follows (p : Part) (c : Frame) : (readRecordWork p c).follows p := by
  unfold readRecordWork
  dsimp only
  split
  · exact Reply.answer_follows _ _ rfl
  · split
    · exact p.refuse_follows _
    · exact Reply.answer_follows _ _ rfl

theorem releaseRecordsWork_follows (p : Part) (c : Frame) : (releaseRecordsWork p c).follows p := by
  unfold releaseRecordsWork
  dsimp only
  split
  · exact Reply.answer_follows _ _ rfl
  · exact Reply.answer_follows _ _ rfl

/-! ## The works of heating -/

theorem heatNowWork_follows (p : Part) (c : Frame) : (heatNowWork p c).follows p := by
  unfold heatNowWork
  dsimp only
  iterate 2
    split
    · exact p.refuse_follows _
  exact Reply.answer_finish_follows _ _ _

theorem setDepartureWork_follows (p : Part) (c : Frame) : (setDepartureWork p c).follows p := by
  unfold setDepartureWork
  dsimp only
  iterate 3
    split
    · exact p.refuse_follows _
  exact Reply.answer_finish_follows _ _ _

theorem cancelDepartureWork_follows (p : Part) (c : Frame) : (cancelDepartureWork p c).follows p := by
  unfold cancelDepartureWork
  dsimp only
  iterate 2
    split
    · exact p.refuse_follows _
  exact Reply.answer_finish_follows _ _ _

theorem readHeatWork_follows (p : Part) (c : Frame) : (readHeatWork p c).follows p := by
  unfold readHeatWork
  split
  · exact Reply.answer_follows _ _ rfl
  · exact Reply.answer_follows _ _ rfl
  · exact Reply.answer_follows _ _ rfl
  · exact p.refuse_follows _

/-! ## The works of the Insulation Monitor and the Branch Locator -/

theorem clearTripWork_follows (p : Part) (c : Frame) : (clearTripWork p c).follows p := by
  unfold clearTripWork
  iterate 3
    split
    · exact Reply.answer_follows _ _ rfl
  exact Reply.answer_finish_follows _ _ _

theorem selfCheckWork_follows (p : Part) (c : Frame) : (selfCheckWork p c).follows p := by
  unfold selfCheckWork
  iterate 2
    split
    · exact p.refuse_follows _
  exact Reply.answer_finish_follows _ _ _

theorem locateNowWork_follows (p : Part) (c : Frame) : (locateNowWork p c).follows p := by
  unfold locateNowWork
  iterate 3
    split
    · exact p.refuse_follows _
  exact Reply.answer_follows _ _ rfl

theorem restoreBranchWork_follows (p : Part) (c : Frame) : (restoreBranchWork p c).follows p := by
  unfold restoreBranchWork
  iterate 3
    split
    · exact p.refuse_follows _
  exact Reply.answer_finish_follows _ _ _

theorem readFaultsWork_follows (p : Part) (c : Frame) : (readFaultsWork p c).follows p := by
  unfold readFaultsWork
  dsimp only
  split
  · exact Reply.answer_follows _ _ rfl
  · split
    · exact p.refuse_follows _
    · split
      · exact Reply.answer_follows _ _ rfl
      · exact Reply.answer_follows _ _ rfl

/-! ## The taking of a command -/

theorem workOf_follows (name : CommandName) (p : Part) (c : Frame) : (workOf name p c).follows p := by
  cases name with
  | unknown => exact p.refuse_follows _
  | status => exact statusWork_follows p c
  | release => exact releaseWork_follows p c
  | sleep => exact sleepWork_follows p c
  | wake => exact wakeWork_follows p c
  | configureMemory => exact configureMemoryWork_follows p c
  | setNoticeMask => exact setNoticeMaskWork_follows p c
  | loadBegin => exact loadBeginWork_follows p c
  | loadData => exact loadDataWork_follows p c
  | loadCommit => exact loadCommitWork_follows p c
  | loadCancel => exact Reply.answer_follows _ _ rfl
  | readTable => exact readTableWork_follows p c
  | resetLink => exact resetLinkWork_follows p c
  | resetHeat => exact Reply.answer_finish_follows _ _ _
  | resetPart => exact Reply.answer_finish_follows _ _ _
  | readBranches => exact Reply.answer_follows _ _ rfl
  | setClock => exact setClockWork_follows p c
  | readBudget => exact Reply.answer_follows _ _ rfl
  | openSession => exact openSessionWork_follows p c
  | pauseSession => exact pauseWork_follows p c
  | resumeSession => exact resumeWork_follows p c
  | abortSession => exact abortWork_follows p c
  | splitSession => exact splitWork_follows p c
  | sessionStatus => exact Reply.answer_follows _ _ rfl
  | heatNow => exact heatNowWork_follows p c
  | heatStop => exact Reply.answer_finish_follows _ _ _
  | setDeparture => exact setDepartureWork_follows p c
  | cancelDeparture => exact cancelDepartureWork_follows p c
  | readHeat => exact readHeatWork_follows p c
  | clearTrip => exact clearTripWork_follows p c
  | selfCheck => exact selfCheckWork_follows p c
  | readInsulation => exact Reply.answer_follows _ _ rfl
  | locateNow => exact locateNowWork_follows p c
  | restoreBranch => exact restoreBranchWork_follows p c
  | readFaults => exact readFaultsWork_follows p c
  | readRecord => exact readRecordWork_follows p c
  | releaseRecords => exact releaseRecordsWork_follows p c

theorem Part.examine_follows (p : Part) (name : CommandName) (c : Frame) :
    (p.examine name (workOf name) c).follows p := by
  unfold Part.examine
  split
  · trivial
  iterate 4
    split
    · exact p.refuse_follows _
  exact workOf_follows name p c

theorem Part.takeAs_becomes (p : Part) (name : CommandName) : p.Becomes (p.takeAs name (workOf name)) := by
  unfold Part.takeAs
  split
  · exact .refl p
  · split
    · exact respond_becomes (p.examine_follows name _)
    · exact .refl p

theorem Part.takeHead_becomes (p : Part) : p.Becomes p.takeHead := by
  unfold Part.takeHead
  split
  · exact .refl p
  · exact p.takeAs_becomes _

/-! ## The events of the part -/

/-- R184: the image that is judged is refused, or its commit ends an event. -/
theorem Part.judgeStaging_follows (p : Part) (s : Staging) : (p.judgeStaging s).follows p := by
  unfold Part.judgeStaging
  split
  · exact p.refuse_follows _
  · split
    · exact Reply.answer_follows _ _ rfl
    · split
      · exact Reply.answer_follows _ _ rfl
      · exact Reply.answer_finish_follows _ _ _

theorem Part.completeCommit_becomes (p : Part) : p.Becomes p.completeCommit := by
  have released : p.Becomes (p.modMgmt fun m => { m with validation := none }) := .kept rfl
  unfold Part.completeCommit
  dsimp only
  split
  · exact released.trans (respond_becomes (Part.judgeStaging_follows _ _))
  · exact released

theorem Part.placeFreed_becomes (p : Part) : p.Becomes p.placeFreed := by
  unfold Part.placeFreed
  split
  · split
    · exact p.completeCommit_becomes
    · exact .refl p
  · exact p.takeHead_becomes

theorem Part.endTransmission_becomes (p : Part) : p.Becomes p.endTransmission := by
  have idle : p.Becomes (p.modChain fun c => { c with portB := none }) := .kept rfl
  have chosen := idle.trans (.handedOn _)
  unfold Part.endTransmission
  dsimp only
  split
  · exact chosen.trans (Part.placeFreed_becomes _)
  · exact chosen

theorem Part.validationDone_becomes (p : Part) : p.Becomes p.validationDone := by
  unfold Part.validationDone
  split
  · exact .refl p
  · split
    · exact .kept rfl
    · exact p.completeCommit_becomes

/-! ## Rows and steps -/

/-- A row whose meaning on the part is `f`. -/
theorem State.after_becomes {s t : State} (f : Part → Part) (h : s.part.Becomes (f s.part))
    (ran : s.after f = .next t) : s.part.Becomes t.part := by
  cases ran
  exact h

/-- A row that acts when it is due, with port B handed on after it. -/
theorem State.when_becomes {s t : State} (due : Part → Bool) (f : Part → Part) (h : s.part.Becomes (f s.part))
    (ran : (s.after fun p => p.when (due p) f) = .next t) : s.part.Becomes t.part := by
  refine State.after_becomes _ ?_ ran
  unfold Part.when
  split
  · exact h.trans (.handedOn _)
  · exact .refl _

theorem State.take_becomes {s t : State} (name : CommandName) (ran : s.take name (workOf name) = .next t) :
    s.part.Becomes t.part :=
  State.after_becomes (fun p => (p.takeAs name (workOf name)).arbitrate)
    ((s.part.takeAs_becomes name).trans (.handedOn _)) ran

/-- What a row can do to the settled figures: each expiry but that of a heat change ends an event. -/
theorem exec_becomes (i : Instr) (s t : State) (ran : exec i s = .next t) : s.part.Becomes t.part := by
  cases i
  case powerOn strap => exact State.after_becomes (fun _ => Part.initial strap none) (.started strap none) ran
  case resetInput strap =>
    exact State.after_becomes (fun p => Part.initial strap p.chain.portB) (.started strap _) ran
  case frameArrival bytes =>
    exact State.after_becomes (fun p => (p.receive bytes).arbitrate)
      ((s.part.receive_becomes bytes).trans (.handedOn _)) ran
  case transmissionEnd => exact State.after_becomes Part.endTransmission s.part.endTransmission_becomes ran
  case stalenessExpiry role =>
    exact State.when_becomes (fun p => p.staleDue role) (fun p => p.goStale role) (.settled _) ran
  case switchDeadlineExpiry b =>
    exact State.when_becomes (fun p => p.deadlinePassed (p.branch b).change)
      (fun p => (p.failChange .deadline b).finish) (.settled _) ran
  case heatPendingExpiry z =>
    exact State.when_becomes (fun p => p.deadlinePassed (p.zone z).change) (fun p => p.failHeatChange z)
      (.kept (s.part.failHeatChange_settled z)) ran
  case modeDeadlineExpiry =>
    exact State.when_becomes (fun p => p.deadlinePassed p.monitor.change) (fun p => p.modeFailed.finish)
      (.settled _) ran
  case inletStaleGraceExpiry =>
    exact State.when_becomes Part.inletGraceDue (fun p => (p.terminate .inletStale).finish) (.settled _) ran
  case unknownGraceExpiry =>
    exact State.when_becomes Part.unknownGraceDue (fun p => (p.terminate .insulationUnknown).finish) (.settled _) ran
  case durationTimerExpiry =>
    exact State.when_becomes Part.durationDue (fun p => (p.terminate .duration).finish) (.settled _) ran
  case burstExpiry z =>
    exact State.when_becomes (fun p => p.endReached z .burst) (fun p => (p.burstExpires z).finish) (.settled _) ran
  case restExpiry z =>
    exact State.when_becomes (fun p => p.endReached z .rest) (fun p => (p.restExpires z).finish) (.settled _) ran
  case minuteTick => exact State.when_becomes Part.minuteDue Part.minuteTick (.settled _) ran
  case wakeIntervalExpiry =>
    exact State.when_becomes Part.wakeDue (fun p => (p.wake .interval).finish) (.settled _) ran
  case loadCommitCompletion =>
    exact State.when_becomes (fun p => p.mgmt.validation.isSome) Part.validationDone
      s.part.validationDone_becomes ran
  all_goals exact State.take_becomes _ ran

/-- A step is a row, an own event, or 1 ms, which moves none of the settled figures. -/
theorem step_becomes (s t : State) (ran : step s = .next t) : s.part.Becomes t.part := by
  unfold step at ran
  split at ran
  · next i rest _ => exact exec_becomes i { s with pending := rest } t ran
  · unfold idle at ran
    split at ran
    · next i _ => exact exec_becomes i s t ran
    · cases ran
      exact .kept rfl

theorem KeptByEvents.step {K : Part → Prop} (kept : KeptByEvents K) {s t : State} (holds : K s.part)
    (ran : step s = .next t) : K t.part :=
  kept.keeps (step_becomes s t ran) holds

/-! ## The switches stay decided (R21, R23) -/

/-- R7: the arbiter commands no switch. -/
theorem Part.arbitrate_wired (p : Part) : p.arbitrate.wired = p.wired := by
  unfold Part.arbitrate
  split
  · rfl
  · split
    · rfl
    · split
      · unfold Part.sendForward
        dsimp only
        split
        · rfl
        · split <;> rfl
      · split
        · unfold Part.sendAnswer
          split <;> rfl
        · split <;> rfl

/-- The branch rule reads and writes nothing but settled figures. -/
theorem Part.switchesDecided_of_settled {p q : Part} (h : q.settled = p.settled) (decided : p.switchesDecided) :
    q.switchesDecided := by
  have branches : q.drive.branches = p.drive.branches := congrArg Settled.branches h
  have safeLine : q.drive.safeLine = p.drive.safeLine := congrArg Settled.safeLine h
  have partState : q.mgmt.partState = p.mgmt.partState := congrArg Settled.partState h
  have monitor : q.monitor = p.monitor := congrArg Settled.monitor h
  simpa only [Part.switchesDecided, Part.shouldClose, Part.branch, Part.inRun, Part.tripped, branches, safeLine,
    partState, monitor] using decided

/-- R32: with no claim and every branch OPEN, the safe line is low. -/
theorem Part.initial_switchesDecided (strap : BitVec 2) (portB : Option Frame) :
    (Part.initial strap portB).switchesDecided :=
  ⟨fun b => by cases b <;> rfl, rfl⟩

theorem switchesDecided_keptByEvents : KeptByEvents Part.switchesDecided where
  initial := Part.initial_switchesDecided
  finish := Part.finish_switchesDecided
  arbitrate p decided := Part.switchesDecided_of_wired p.arbitrate_wired decided
  congr _ _ same decided := Part.switchesDecided_of_settled same decided

/-- Settles O5: the end of an event decides the switches, and nothing outside it moves what they follow from. -/
theorem switchesStayDecided : Obligations.SwitchesStayDecided :=
  fun _ _ decided ran => switchesDecided_keptByEvents.step decided ran

end Sys2Proof.Machine
end

section
/-! PROOFS. A switch change that reaches its deadline (O27), and the reading commands (O49). -/

namespace Sys2Proof.Machine

/-! ## A failed switch change (R28) -/

theorem Part.deadlinePassed_of_due {α : Type} {p : Part} {w : Option (Awaiting α)} {a : Awaiting α}
    (pending : w = some a) (due : a.deadline ≤ p.now) : p.deadlinePassed w = true := by
  rw [pending]
  exact decide_eq_true due

/-- A row that acts when it is due, and is. -/
theorem State.after_when_due {s : State} {due : Part → Bool} (f : Part → Part) (h : due s.part = true) :
    (s.after fun p => p.when (due p) f) = s.leaves (f s.part) := by
  unfold State.after Part.when
  dsimp only
  rw [h]
  rfl

/-- R28: a pending change that fails is told with the state that it awaited. -/
theorem Part.failChange_of_pending {p : Part} {b : Branch} {w : Awaiting Bool} (pending : (p.branch b).change = some w)
    (reason : MismatchReason) :
    p.failChange reason b =
      (((p.modBranch b fun e => { e with change := none, faulty := true }).raise
        (.contactorMismatch b (p.branch b).commanded (p.branch b).feedback reason)).locateFailed b
          w.awaited).reportContactor b := by
  have awaited : (p.branch b).awaited = w.awaited := by rw [BranchEntry.awaited, pending]
  rw [Part.failChange, Part.tellFailed, awaited, Part.endChange]

/-- Settles O27: the expiry is due, and its effect is the failure of the change. -/
theorem switchDeadlineFailsChange : Obligations.SwitchDeadlineFailsChange := by
  intro b w s p e pending due
  rw [← Part.failChange_of_pending pending]
  exact State.after_when_due (due := fun p => p.deadlinePassed (p.branch b).change)
    (fun p => (p.failChange .deadline b).finish) (Part.deadlinePassed_of_due pending due)

/-! ## Fields that may be absent (R190) -/

theorem switchCode_eq (x : Option Bool) : switchCode x = match x with
    | none => 0xFF#8
    | some on => if on then 1#8 else 0#8 := by
  cases x <;> rfl

/-- A figure of 4 bytes that is absent as 0. -/
theorem beBytes_four_getD_eq (x : Option Nat) : beBytes 4 (x.getD 0) = match x with
    | none => [0#8, 0#8, 0#8, 0#8]
    | some n => beBytes 4 n := by
  cases x <;> rfl

/-! ## Figures that the answers read -/

/-- R31: one branch's fields. -/
theorem BranchEntry.bytes_eq (e : BranchEntry) (now : Nat) : e.bytes now =
    [nibble e.claimPart e.claimSession false false, flagByte e.shed, flagByte e.quarantine, flagByte e.commanded,
        match e.feedback with
        | none => 0xFF#8
        | some on => if on then 1#8 else 0#8,
        flagByte e.change.isSome]
      ++ (match e.change with
        | none => [0xFF#8, 0xFF#8]
        | some w => beBytes 2 (w.deadline - now))
      ++ [flagByte e.faulty] := by
  rw [BranchEntry.bytes, switchCode_eq]
  cases e.change <;> rfl

/-- R79: the stop SOC in force, 0 when neither the session nor a LIMIT table gives one. -/
theorem Part.stopSoc_getD (p : Part) : p.stopSoc.getD 0 = match p.session.stopSoc with
    | some x => x
    | none => p.session.table.elim 0 fun t => t.table.stopSocDefault := by
  unfold Part.stopSoc
  cases p.session.stopSoc
  · cases p.session.table <;> rfl
  · rfl

/-- R97: the whole minutes on the duration timer, absent as all ones when it does not run. -/
theorem Part.minutesElapsed_bytes (p : Part) : maybeU16 p.minutesElapsed = match p.session.durationStart with
    | none => [0xFF#8, 0xFF#8]
    | some t => beBytes 2 ((p.now - t) / 60000) := by
  unfold Part.minutesElapsed
  cases p.session.durationStart <;> rfl

theorem Part.segmentCount_eq (p : Part) :
    p.segmentCount = p.store.opened.elim 0 fun r => r.segments.length := by
  unfold Part.segmentCount
  cases p.store.opened <;> rfl

/-- R126: an absent INLET reading counts as a charger's monitor that is not active. -/
theorem Part.chargerMonitorActive_eq (p : Part) :
    p.chargerMonitorActive = p.nodes.inlet.any fun r => r.monitorActive := by
  unfold Part.chargerMonitorActive
  cases p.nodes.inlet <;> rfl

theorem Part.shedList_eq (p : Part) : p.shedList = p.monitor.table.elim [] fun t => t.table.shedList := by
  unfold Part.shedList
  cases p.monitor.table <;> rfl

/-- R141: the band of the table in force shows in CHECKING alone. -/
theorem Part.checkingFields_eq (p : Part) :
    p.checkingFields = match p.monitor.state, p.monitor.table.map fun t => t.table.acceptBand with
      | .checking, some b =>
        [countByte p.monitor.checkCount] ++ maybeResistance (some b.1) ++ maybeResistance (some b.2)
      | _, _ => [0xFF#8] ++ maybeResistance none ++ maybeResistance none := by
  unfold Part.checkingFields
  cases p.monitor.state
  case checking => cases p.monitor.table <;> rfl
  all_goals rfl

/-- R122: the three parts of READ_HEAT. -/
theorem readHeatWork_eq (p : Part) (c : Frame) : readHeatWork p c =
    if u8 c.payload 3 = 0 then
      .answer p .ok (p.zoneFields .z1 ++ p.zoneFields .z2 ++ p.zoneFields .z3 ++ p.zoneFields .z4)
    else if u8 c.payload 3 = 1 then .answer p .ok p.sourceFields
    else if u8 c.payload 3 = 2 then .answer p .ok (p.heat.departures.map Departure.bytes).flatten
    else p.refuse .range := by
  unfold readHeatWork
  split
  · next part => rw [if_pos part]
  · next part => rw [part]; rfl
  · next part => rw [part]; rfl
  · next zero one two => rw [if_neg zero, if_neg one, if_neg two]

/-! ## The reading commands -/

/-- A command that reads: its work answers and leaves the part as it is. -/
theorem State.take_reads {s : State} {name : CommandName} {c : Frame} {rest : List Frame} (named : name ≠ .unknown)
    (h : s.part.Admits name c rest) {work : Part → Frame → Reply} {status : Status} {fields : List Byte}
    (reads : work s.part c = .answer s.part status fields) :
    s.take name work = s.answers s.part c rest status fields :=
  State.take_answers named h reads rfl

/-- R122: the outcome of READ_HEAT, part by part. -/
theorem exec_readHeat {s : State} {c : Frame} {rest : List Frame} (admits : s.part.Admits .readHeat c rest) :
    exec .readHeat s =
      if u8 c.payload 3 = 0 then s.answers s.part c rest .ok
        (s.part.zoneFields .z1 ++ s.part.zoneFields .z2 ++ s.part.zoneFields .z3 ++ s.part.zoneFields .z4)
      else if u8 c.payload 3 = 1 then s.answers s.part c rest .ok s.part.sourceFields
      else if u8 c.payload 3 = 2 then
        s.answers s.part c rest .ok (s.part.heat.departures.map Departure.bytes).flatten
      else s.answers s.part c rest .range [] := by
  have reads {status : Status} {fields : List Byte} (work : readHeatWork s.part c = .answer s.part status fields) :
      exec .readHeat s = s.answers s.part c rest status fields :=
    State.take_reads (name := .readHeat) nofun admits work
  rw [readHeatWork_eq] at reads
  split
  · next zero => exact reads (if_pos zero)
  · next zero =>
    rw [if_neg zero] at reads
    split
    · next one => exact reads (if_pos one)
    · next one =>
      rw [if_neg one] at reads
      split
      · next two => exact reads (if_pos two)
      · next two => exact reads (if_neg two)

/-- R157: the outcome of READ_FAULTS, index by index. -/
theorem exec_readFaults {s : State} {c : Frame} {rest : List Frame} (admits : s.part.Admits .readFaults c rest) :
    exec .readFaults s =
      if u8 c.payload 3 = 255 then s.answers s.part c rest .ok s.part.locateFields
      else if 11 < u8 c.payload 3 then s.answers s.part c rest .range []
      else
        match s.part.locator.faults[u8 c.payload 3]? with
        | none => s.answers s.part c rest .ok s.part.faultCounts
        | some e => s.answers s.part c rest .ok (e.bytes ++ s.part.faultCounts) := by
  have reads {status : Status} {fields : List Byte} (work : readFaultsWork s.part c = .answer s.part status fields) :
      exec .readFaults s = s.answers s.part c rest status fields :=
    State.take_reads (name := .readFaults) nofun admits work
  unfold readFaultsWork at reads
  dsimp only at reads
  split
  · next whole => exact reads (if_pos whole)
  · next single =>
    rw [if_neg single] at reads
    split
    · next beyond => exact reads (if_pos beyond)
    · next within =>
      rw [if_neg within] at reads
      split
      · next held => exact reads (by rw [held])
      · next held => exact reads (by rw [held])

/-- Settles O49: the work of each command answers the fields that the lemmas above spell. -/
theorem readingCommandsChangeNothing : Obligations.ReadingCommandsChangeNothing := by
  intro c rest s p bits switch branch n session u ask budget m context band recover insulation zone slots h lead
    departureTarget sources departure l shed locate counts fault
  have branches : p.branchFields = branch .main ++ branch .dcInlet ++ branch .converter ++ branch .cargo
      ++ branch .zone1 ++ branch .zone2 ++ branch .zone3 ++ branch .zone4 ++ [flagByte p.drive.safeLine] := by
    have each (b : Branch) : (p.branch b).bytes p.now = branch b := BranchEntry.bytes_eq _ _
    simp only [Part.branchFields, each, allBranches, List.map_cons, List.map_nil, List.flatten_cons,
      List.flatten_nil, List.append_assoc, List.nil_append]
  have sessionBytes : p.sessionFields = session := by
    rw [Part.sessionFields, Part.minutesElapsed_bytes, beBytes_four_getD_eq, Part.stopSoc_getD, Part.segmentCount_eq]
    rfl
  have insulationBytes : p.insulationFields = insulation := by
    rw [Part.insulationFields, Part.chargerMonitorActive_eq, Part.checkingFields_eq]
    rfl
  have zoneBytes (z : Zone) : p.zoneFields z = zone z := by
    rw [Part.zoneFields, switchCode_eq]
    rfl
  have locateBytes : p.locateFields = locate := by
    rw [Part.locateFields, Part.shedList_eq]
    rfl
  refine ⟨fun admits => ?_, fun admits => ?_, fun admits => ?_, fun admits => ?_, fun admits => ?_,
    fun admits => ?_⟩
  · rw [← branches]
    exact State.take_reads (name := .readBranches) nofun admits rfl
  · exact State.take_reads (name := .readBudget) nofun admits rfl
  · rw [← sessionBytes]
    exact State.take_reads (name := .sessionStatus) nofun admits rfl
  · rw [← insulationBytes]
    exact State.take_reads (name := .readInsulation) nofun admits rfl
  · rw [exec_readHeat admits, zoneBytes, zoneBytes, zoneBytes, zoneBytes]
    rfl
  · rw [exec_readFaults admits, locateBytes]
    rfl

end Sys2Proof.Machine
end

section
/-! PROOFS. The part-wide energy counters (O7): the block operations keep them in balance by `outer`; what remains are
the queues, the nodes and the part states, which hold no energy, and the resets, which set every counter to 0. -/

namespace Sys2Proof.Machine

/-! ## Balance (R44) -/

/-- What an event does to the balance of the part-wide counters: it keeps it. -/
def Part.StaysEven (p q : Part) : Prop := p.meter.balanced → q.meter.balanced

/-- An event that leaves the Metering Unit as it is. -/
theorem Part.StaysEven.of_meter {p q : Part} (h : q.meter = p.meter) : p.StaysEven q := fun even => h ▸ even

/-- An operation of a block keeps the counters with the rest of `outer`. -/
theorem Part.StaysEven.of_outer {p q : Part} (h : q.outer = p.outer) : p.StaysEven q :=
  (congrArg Outer.balanced h).mpr

theorem Part.StaysEven.refl (p : Part) : p.StaysEven p := id

theorem Part.StaysEven.trans {p q r : Part} (first : p.StaysEven q) (second : q.StaysEven r) : p.StaysEven r :=
  fun even => second (first even)

/-- The end of the event after an operation that stays even. -/
theorem Part.StaysEven.finish {p q : Part} (h : p.StaysEven q) : p.StaysEven q.finish :=
  h.trans (.of_outer q.finish_outer)

/-- 3.8: the counters as they are at reset. -/
theorem Metering.initial_balanced : Metering.initial.balanced := by
  unfold Metering.balanced
  decide

/-! ## Port B and the changes of part state -/

/-- R7: the arbiter touches no counter. -/
theorem Part.arbitrate_meter (p : Part) : p.arbitrate.meter = p.meter := by
  unfold Part.arbitrate
  split
  · rfl
  · split
    · rfl
    · split
      · unfold Part.sendForward
        dsimp only
        split
        · rfl
        · split <;> rfl
      · split
        · unfold Part.sendAnswer
          split <;> rfl
        · split <;> rfl

/-- R14: the staleness timers are the Node Table's. -/
theorem Part.startTimers_even (p : Part) : p.StaysEven p.startTimers := .of_meter rfl
theorem Part.stopTimers_even (p : Part) : p.StaysEven p.stopTimers := .of_meter rfl

/-- 10.1: the part state, the wake interval and the reason are the Management Unit's. -/
theorem Part.modMgmt_even (p : Part) (g : Management → Management) : p.StaysEven (p.modMgmt g) := .of_meter rfl

/-- R175. -/
theorem Part.wake_even (p : Part) (r : WakeReason) : p.StaysEven (p.wake r) := by
  unfold Part.wake
  refine .trans ?_ (.of_outer (Part.demandDue_outer _))
  refine .trans ?_ (.of_outer (Part.startMonitor_outer _ _))
  refine .trans ?_ (Part.startTimers_even _)
  exact .trans (p.modMgmt_even _) (.of_outer (Part.setPartClaims_outer _ _))

/-- R173. -/
theorem Part.enterRunAtRelease_even (p : Part) : p.StaysEven p.enterRunAtRelease := by
  unfold Part.enterRunAtRelease
  refine .trans ?_ (.of_outer (Part.recomputeDue_outer _))
  refine .trans ?_ (.of_outer (Part.demandDue_outer _))
  refine .trans ?_ (.of_outer (Part.startMonitor_outer _ _))
  exact .trans (p.modMgmt_even _) (.of_outer (Part.setPartClaims_outer _ _))

/-- R174. -/
theorem Part.sleep_even (p : Part) (code : Nat) : p.StaysEven (p.sleep code) := by
  unfold Part.sleep
  refine .trans ?_ (.of_outer (Part.demandDue_outer _))
  refine .trans ?_ (.of_outer (Part.restZones_outer _))
  refine .trans ?_ (.of_outer (Part.endManual_outer _))
  refine .trans ?_ (Part.stopTimers_even _)
  refine .trans ?_ (.of_outer (Part.sleepMonitor_outer _))
  exact .trans (p.modMgmt_even _) (.of_outer (Part.setPartClaims_outer _ _))

/-! ## Frames at port A -/

theorem Part.markUsed_meter (p : Part) (e : NodeEntry) (seq : Byte) : (p.markUsed e seq).meter = p.meter := by
  unfold Part.markUsed
  dsimp only
  split <;> rfl

theorem Part.noteGateway_meter (p : Part) (f : Frame) : (p.noteGateway f).meter = p.meter := by
  unfold Part.noteGateway
  split
  · rfl
  · split
    · exact p.markUsed_meter _ _
    · rfl

theorem Part.useInlet_even (p : Part) (e : NodeEntry) (r : InletReadings) : p.StaysEven (p.useInlet e r) := by
  have used : p.StaysEven ((p.meterInlet e r).inletReturns r) := .of_outer (by simp)
  unfold Part.useInlet
  dsimp only
  split
  · exact used.trans (Part.wake_even _ _)
  · exact used

/-- R40, R43: INLET_SEEN moves with one of its three parts, whatever the role of the sample. -/
theorem Part.consume_even (p : Part) (e : NodeEntry) (r : Reading) (a b : Bool) : p.StaysEven (p.consume e r a b) := by
  cases r with
  | inlet x => exact p.useInlet_even e x
  | pack x => exact .of_outer p.usePack_outer
  | heater x => exact .of_outer (p.useHeater_outer e x b)
  | cargo x => exact .of_outer (p.useCargo_outer e x)
  | converter x => exact .of_outer (p.useConverter_outer x)
  | contactor x => exact .of_outer (p.takeSwitches_outer _)
  | injector x => exact .of_outer (p.takeInjector_outer x a)

theorem Part.useSample_even (p : Part) (e : NodeEntry) (seq : Byte) (r : Reading) :
    p.StaysEven (p.useSample e seq r) := by
  have marked : p.StaysEven ((p.markUsed e seq).setReading r) := .of_meter (p.markUsed_meter e seq)
  exact (marked.trans (Part.consume_even _ _ _ _ _)).finish

theorem Part.examineSample_even (p : Part) (f : Frame) : p.StaysEven (p.examineSample f) := by
  unfold Part.examineSample
  split
  · exact .refl p
  · split
    · exact .refl p
    · split
      · exact .refl p
      · exact p.useSample_even _ _ _

theorem Part.routeOrder_meter (p : Part) (f : Frame) : (p.routeOrder f).meter = p.meter := by
  unfold Part.routeOrder
  split
  · rfl
  · split <;> rfl

theorem Part.enqueueCommand_meter (p : Part) (f : Frame) : (p.enqueueCommand f).meter = p.meter := by
  unfold Part.enqueueCommand
  split
  · rfl
  · split <;> rfl

/-- R4: of the frames, only samples reach the Metering Unit. -/
theorem Part.route_even (p : Part) (f : Frame) : p.StaysEven (p.route f) := by
  have forwarded (q : Part) : q.StaysEven (q.forward f) := .of_meter rfl
  unfold Part.route
  split
  case h_1 =>
    split
    · split
      · exact .of_meter (p.enqueueCommand_meter f)
      · exact .refl p
    · exact forwarded p
  case h_2 =>
    dsimp only
    split
    · exact p.examineSample_even f
    · exact (p.examineSample_even f).trans (forwarded _)
  case h_3 => exact .of_meter (p.routeOrder_meter f)
  case h_4 => exact .of_meter (p.routeOrder_meter f)
  all_goals
    split
    · exact .refl p
    · exact forwarded p

theorem Part.receive_even (p : Part) (bytes : List Byte) : p.StaysEven (p.receive bytes) := by
  unfold Part.receive
  split
  · exact .of_meter rfl
  · next f _ =>
    split
    · exact .refl p
    · exact Part.StaysEven.trans (.of_meter (p.noteGateway_meter f)) (Part.route_even _ f)

/-! ## Commands -/

/-- What the work of a command makes of the counters. -/
def Reply.even (p : Part) : Reply → Prop
  | .silent => True
  | .answer after _ _ => p.StaysEven after
  | .hold after => p.StaysEven after

/-- A refusal, or an answer after effects outside the Metering Unit. -/
theorem Reply.even_of_meter {p after : Part} (status : Status) (fields : List Byte) (h : after.meter = p.meter) :
    (Reply.answer after status fields).even p := Part.StaysEven.of_meter h

/-- An answer after operations of the blocks. -/
theorem Reply.even_of_outer {p after : Part} (status : Status) (fields : List Byte) (h : after.outer = p.outer) :
    (Reply.answer after status fields).even p := Part.StaysEven.of_outer h

/-- An answer at the end of an event. -/
theorem Reply.even_of_finish {p q : Part} (status : Status) (fields : List Byte) (h : p.StaysEven q) :
    (Reply.answer q.finish status fields).even p := h.finish

theorem Part.refuse_even (p : Part) (status : Status) : (p.refuse status).even p := .refl p

/-- R177, R179: the queues that a reply moves hold no counter. -/
theorem respond_even {c : Frame} {p : Part} {r : Reply} (h : r.even p) : p.StaysEven (respond c p r) := by
  cases r with
  | silent => exact .of_meter rfl
  | answer after status fields => exact Part.StaysEven.trans h (.of_meter rfl)
  | hold after => exact h

/-! ### The works of the Management Unit and of staging -/

theorem statusWork_even (p : Part) (c : Frame) : (statusWork p c).even p := by
  unfold statusWork
  split
  · exact Reply.even_of_meter _ _ rfl
  · exact Reply.even_of_meter _ _ rfl
  · exact p.refuse_even _

theorem releaseWork_even (p : Part) (c : Frame) : (releaseWork p c).even p := by
  unfold releaseWork
  split
  · exact p.refuse_even _
  · split
    · exact Reply.even_of_meter _ _ rfl
    · exact Reply.even_of_finish _ _ p.enterRunAtRelease_even

theorem sleepWork_even (p : Part) (c : Frame) : (sleepWork p c).even p := by
  unfold sleepWork
  dsimp only
  iterate 4
    split
    · exact p.refuse_even _
  exact Reply.even_of_finish _ _ (p.sleep_even _)

theorem wakeWork_even (p : Part) (c : Frame) : (wakeWork p c).even p := by
  unfold wakeWork
  split
  · exact Reply.even_of_finish _ _ (p.wake_even _)
  · exact p.refuse_even _

theorem configureMemoryWork_even (p : Part) (c : Frame) : (configureMemoryWork p c).even p := by
  unfold configureMemoryWork
  dsimp only
  iterate 2
    split
    · exact p.refuse_even _
  exact Reply.even_of_meter _ _ rfl

theorem setNoticeMaskWork_even (p : Part) (c : Frame) : (setNoticeMaskWork p c).even p := by
  unfold setNoticeMaskWork
  dsimp only
  split
  · exact p.refuse_even _
  · exact Reply.even_of_meter _ _ rfl

theorem setClockWork_even (p : Part) (c : Frame) : (setClockWork p c).even p := by
  unfold setClockWork
  dsimp only
  split
  · exact p.refuse_even _
  · refine Reply.even_of_finish _ _ (.of_outer ?_)
    unfold Part.setClock
    dsimp only
    split <;> simp [Metering.asEven]

theorem resetLinkWork_even (p : Part) (c : Frame) : (resetLinkWork p c).even p := by
  unfold resetLinkWork
  split
  · exact Reply.even_of_meter _ _ rfl
  · exact p.refuse_even _

theorem Part.queueDrive_meter (p : Part) (d : Drive) : (p.queueDrive d).meter = p.meter := by
  unfold Part.queueDrive
  split <;> rfl

/-- 3.8: a PART reset sets every counter to 0, and nothing after that moves one. -/
theorem Part.resetPart_even (p : Part) : p.StaysEven p.resetPart := by
  have zeroed (q : Part) : p.StaysEven q.resetMetering := fun _ => Metering.initial_balanced
  have nodes (q : Part) : q.StaysEven q.resetNodes := .of_meter rfl
  have drives (q : Part) : q.StaysEven q.resetDrives :=
    .of_meter ((Part.queueDrive_meter _ _).trans (Part.queueDrive_meter _ _))
  have settled (q : Part) : q.StaysEven
      q.clampConverter.clampInlet.resetBudget.resetHeatingPart.resetMonitor.resetLocator :=
    .of_outer (by simp)
  exact ((((zeroed _).trans (nodes _)).trans (drives _)).trans (settled _)).finish

theorem loadBeginWork_even (p : Part) (c : Frame) : (loadBeginWork p c).even p := by
  unfold loadBeginWork
  dsimp only
  iterate 4
    split
    · exact p.refuse_even _
  refine Reply.even_of_meter _ _ ?_
  split
  · unfold Part.takeBorrow Part.storeLowCheck
    split <;> rfl
  · rfl

theorem loadDataWork_even (p : Part) (c : Frame) : (loadDataWork p c).even p := by
  unfold loadDataWork
  dsimp only
  split
  · exact p.refuse_even _
  · split
    · exact p.refuse_even _
    · exact Reply.even_of_meter _ _ rfl

theorem loadCommitWork_even (p : Part) (c : Frame) : (loadCommitWork p c).even p := by
  unfold loadCommitWork
  iterate 3
    split
    · exact p.refuse_even _
  exact Part.StaysEven.of_meter rfl

theorem readTableWork_even (p : Part) (c : Frame) : (readTableWork p c).even p := by
  unfold readTableWork
  dsimp only
  iterate 3
    split
    · exact p.refuse_even _
  exact Reply.even_of_meter _ _ rfl

/-! ### The works of the session and its records -/

theorem openSessionWork_even (p : Part) (c : Frame) : (openSessionWork p c).even p := by
  unfold openSessionWork
  dsimp only
  iterate 9
    split
    · exact p.refuse_even _
  exact Reply.even_of_outer _ _ (by simp [Part.openSession])

theorem pauseWork_even (p : Part) (c : Frame) : (pauseWork p c).even p := by
  unfold pauseWork
  split
  · exact p.refuse_even _
  · exact p.refuse_even _
  · exact Reply.even_of_outer _ _ (by simp)

theorem resumeWork_even (p : Part) (c : Frame) : (resumeWork p c).even p := by
  unfold resumeWork
  split
  · exact p.refuse_even _
  · exact p.refuse_even _
  · exact Reply.even_of_outer _ _ (by simp)

theorem abortWork_even (p : Part) (c : Frame) : (abortWork p c).even p := by
  unfold abortWork
  split
  · exact p.refuse_even _
  · exact Reply.even_of_outer _ _ (by simp)

theorem splitWork_even (p : Part) (c : Frame) : (splitWork p c).even p := by
  unfold splitWork
  split
  · exact p.refuse_even _
  · exact p.refuse_even _
  · exact p.refuse_even _
  · split
    · exact Reply.even_of_meter _ _ rfl
    · exact Reply.even_of_outer _ _ (by simp [Part.split])

theorem readRecordWork_even (p : Part) (c : Frame) : (readRecordWork p c).even p := by
  unfold readRecordWork
  dsimp only
  split
  · exact Reply.even_of_meter _ _ rfl
  · split
    · exact p.refuse_even _
    · exact Reply.even_of_meter _ _ rfl

theorem releaseRecordsWork_even (p : Part) (c : Frame) : (releaseRecordsWork p c).even p := by
  unfold releaseRecordsWork
  dsimp only
  split
  · exact Reply.even_of_meter _ _ rfl
  · exact Reply.even_of_meter _ _ rfl

/-! ### The works of heating -/

theorem heatNowWork_even (p : Part) (c : Frame) : (heatNowWork p c).even p := by
  unfold heatNowWork
  dsimp only
  iterate 2
    split
    · exact p.refuse_even _
  exact Reply.even_of_outer _ _ (by simp)

theorem setDepartureWork_even (p : Part) (c : Frame) : (setDepartureWork p c).even p := by
  unfold setDepartureWork
  dsimp only
  iterate 3
    split
    · exact p.refuse_even _
  exact Reply.even_of_outer _ _ (by simp [Part.setDeparture])

theorem cancelDepartureWork_even (p : Part) (c : Frame) : (cancelDepartureWork p c).even p := by
  unfold cancelDepartureWork
  dsimp only
  iterate 2
    split
    · exact p.refuse_even _
  exact Reply.even_of_outer _ _ (by simp)

theorem readHeatWork_even (p : Part) (c : Frame) : (readHeatWork p c).even p := by
  unfold readHeatWork
  split
  · exact Reply.even_of_meter _ _ rfl
  · exact Reply.even_of_meter _ _ rfl
  · exact Reply.even_of_meter _ _ rfl
  · exact p.refuse_even _

/-! ### The works of the Insulation Monitor and the Branch Locator -/

theorem clearTripWork_even (p : Part) (c : Frame) : (clearTripWork p c).even p := by
  unfold clearTripWork
  iterate 3
    split
    · exact Reply.even_of_meter _ _ rfl
  exact Reply.even_of_outer _ _ (by simp [Part.clearTrip])

theorem selfCheckWork_even (p : Part) (c : Frame) : (selfCheckWork p c).even p := by
  unfold selfCheckWork
  iterate 2
    split
    · exact p.refuse_even _
  exact Reply.even_of_outer _ _ (by simp)

theorem locateNowWork_even (p : Part) (c : Frame) : (locateNowWork p c).even p := by
  unfold locateNowWork
  iterate 3
    split
    · exact p.refuse_even _
  exact Reply.even_of_meter _ _ rfl

theorem restoreBranchWork_even (p : Part) (c : Frame) : (restoreBranchWork p c).even p := by
  unfold restoreBranchWork
  iterate 3
    split
    · exact p.refuse_even _
  exact Reply.even_of_finish _ _ (.of_outer (p.restoreBranch_outer _))

theorem readFaultsWork_even (p : Part) (c : Frame) : (readFaultsWork p c).even p := by
  unfold readFaultsWork
  dsimp only
  split
  · exact Reply.even_of_meter _ _ rfl
  · split
    · exact p.refuse_even _
    · split
      · exact Reply.even_of_meter _ _ rfl
      · exact Reply.even_of_meter _ _ rfl

/-! ### The taking of a command -/

/-- A command's work keeps the balance: the readings and the refusals touch no counter, the other works are
operations of the blocks, and a PART reset sets every counter to 0. -/
theorem workOf_even (name : CommandName) (p : Part) (c : Frame) : (workOf name p c).even p := by
  cases name with
  | unknown => exact p.refuse_even _
  | status => exact statusWork_even p c
  | release => exact releaseWork_even p c
  | sleep => exact sleepWork_even p c
  | wake => exact wakeWork_even p c
  | configureMemory => exact configureMemoryWork_even p c
  | setNoticeMask => exact setNoticeMaskWork_even p c
  | loadBegin => exact loadBeginWork_even p c
  | loadData => exact loadDataWork_even p c
  | loadCommit => exact loadCommitWork_even p c
  | loadCancel => exact Reply.even_of_meter _ _ rfl
  | readTable => exact readTableWork_even p c
  | resetLink => exact resetLinkWork_even p c
  | resetHeat => exact Reply.even_of_outer _ _ (by simp)
  | resetPart => exact p.resetPart_even
  | readBranches => exact Reply.even_of_meter _ _ rfl
  | setClock => exact setClockWork_even p c
  | readBudget => exact Reply.even_of_meter _ _ rfl
  | openSession => exact openSessionWork_even p c
  | pauseSession => exact pauseWork_even p c
  | resumeSession => exact resumeWork_even p c
  | abortSession => exact abortWork_even p c
  | splitSession => exact splitWork_even p c
  | sessionStatus => exact Reply.even_of_meter _ _ rfl
  | heatNow => exact heatNowWork_even p c
  | heatStop => exact Reply.even_of_outer _ _ (by simp)
  | setDeparture => exact setDepartureWork_even p c
  | cancelDeparture => exact cancelDepartureWork_even p c
  | readHeat => exact readHeatWork_even p c
  | clearTrip => exact clearTripWork_even p c
  | selfCheck => exact selfCheckWork_even p c
  | readInsulation => exact Reply.even_of_meter _ _ rfl
  | locateNow => exact locateNowWork_even p c
  | restoreBranch => exact restoreBranchWork_even p c
  | readFaults => exact readFaultsWork_even p c
  | readRecord => exact readRecordWork_even p c
  | releaseRecords => exact releaseRecordsWork_even p c

theorem Part.examine_even (p : Part) (name : CommandName) (c : Frame) : (p.examine name (workOf name) c).even p := by
  unfold Part.examine
  split
  · trivial
  iterate 4
    split
    · exact p.refuse_even _
  exact workOf_even name p c

theorem Part.takeAs_even (p : Part) (name : CommandName) : p.StaysEven (p.takeAs name (workOf name)) := by
  unfold Part.takeAs
  split
  · exact .refl p
  · split
    · exact respond_even (p.examine_even name _)
    · exact .refl p

theorem Part.takeHead_even (p : Part) : p.StaysEven p.takeHead := by
  unfold Part.takeHead
  split
  · exact .refl p
  · exact p.takeAs_even _

/-! ## The completion of a LOAD_COMMIT -/

/-- R184: a valid image's commit; a NODE commit clears the energy bases and no counter. -/
theorem Part.judgeImage_even {p q : Part} {t : TableId} {img : List Byte} (h : p.judgeImage t img = .ok q) :
    p.StaysEven q := by
  have judged {α : Type} (j : Judged α) (f : α → Part) (even : ∀ x, p.StaysEven (f x))
      (h : j.map f = .ok q) : p.StaysEven q := by
    cases j with
    | error k => cases h
    | ok x => cases h; exact even x
  cases t with
  | node => exact judged (judgeNode p.chain.address img) (fun x => p.commitNode ⟨img, x⟩) (fun _ => id) h
  | limit =>
    exact judged (judgeLimit img) (fun x => p.commitLimit ⟨img, x⟩) (fun _ => .of_outer (p.commitLimit_outer _)) h
  | budget => exact judged (judgeBudget img) (fun x => p.commitBudget ⟨img, x⟩) (fun _ => .of_meter rfl) h
  | tariff =>
    exact judged (judgeTariff img) (fun x => p.commitTariff ⟨img, x⟩)
      (fun _ => .of_outer (by simp [Part.commitTariff, Metering.asEven])) h
  | heat =>
    exact judged (judgeHeat img) (fun x => p.commitHeat ⟨img, x⟩) (fun _ => .of_outer (p.commitHeat_outer _)) h
  | insulation =>
    exact judged (judgeInsulation img) (fun x => p.commitInsulation ⟨img, x⟩)
      (fun _ => .of_outer (p.commitInsulation_outer _)) h

theorem Part.settleCommit_even (p : Part) (s : Staging) : p.StaysEven (p.settleCommit s) :=
  Part.StaysEven.finish (.of_meter rfl)

theorem Part.judgeStaging_even (p : Part) (s : Staging) : (p.judgeStaging s).even p := by
  unfold Part.judgeStaging
  split
  · exact p.refuse_even _
  · split
    · exact Reply.even_of_meter _ _ rfl
    · split
      · exact Reply.even_of_meter _ _ rfl
      · next valid => exact Part.StaysEven.trans (Part.judgeImage_even valid) (Part.settleCommit_even _ s)

theorem Part.completeCommit_even (p : Part) : p.StaysEven p.completeCommit := by
  have released : p.StaysEven (p.modMgmt fun m => { m with validation := none }) := .of_meter rfl
  unfold Part.completeCommit
  dsimp only
  split
  · exact released.trans (respond_even (Part.judgeStaging_even _ _))
  · exact released

/-! ## Rows and steps -/

theorem Part.placeFreed_even (p : Part) : p.StaysEven p.placeFreed := by
  unfold Part.placeFreed
  split
  · split
    · exact p.completeCommit_even
    · exact .refl p
  · exact p.takeHead_even

theorem Part.endTransmission_even (p : Part) : p.StaysEven p.endTransmission := by
  have chosen : p.StaysEven (p.modChain fun c => { c with portB := none }).arbitrate :=
    .of_meter (Part.arbitrate_meter _)
  unfold Part.endTransmission
  dsimp only
  split
  · exact chosen.trans (Part.placeFreed_even _)
  · exact chosen

theorem Part.validationDone_even (p : Part) : p.StaysEven p.validationDone := by
  unfold Part.validationDone
  split
  · exact .refl p
  · split
    · exact .of_meter rfl
    · exact p.completeCommit_even

theorem Part.goStale_even (p : Part) (role : Role) : p.StaysEven (p.goStale role) := by
  have marked : p.StaysEven (p.modEntry role fun e => { e with state := .stale, timer := none }) := .of_meter rfl
  exact (marked.trans (.of_outer (by simp))).finish

/-- R45: a minute tick moves the clock, the band and its segment, and no counter. -/
theorem Part.minuteTick_even (p : Part) : p.StaysEven p.minuteTick := by
  have counted : p.StaysEven ((p.countMinute.refreshBand).countDownDepartures).evalWindows := by
    have clock : p.StaysEven p.countMinute := id
    exact clock.trans (.of_outer (by simp))
  unfold Part.minuteTick
  dsimp only
  split
  · exact (counted.trans (Part.wake_even _ _)).finish
  · exact counted.finish

theorem Part.initial_balanced (strap : BitVec 2) (portB : Option Frame) :
    (Part.initial strap portB).meter.balanced := Metering.initial_balanced

/-- A row whose meaning on the part is `f`. -/
theorem State.after_even {s t : State} (f : Part → Part) (h : s.part.StaysEven (f s.part))
    (ran : s.after f = .next t) : s.part.StaysEven t.part := by
  cases ran
  exact h

/-- A row that acts when it is due, with port B handed on after it. -/
theorem State.when_even {s t : State} (due : Part → Bool) (f : Part → Part) (h : s.part.StaysEven (f s.part))
    (ran : (s.after fun p => p.when (due p) f) = .next t) : s.part.StaysEven t.part := by
  refine State.after_even _ ?_ ran
  unfold Part.when
  split
  · exact h.trans (.of_meter (Part.arbitrate_meter _))
  · exact .refl _

theorem State.take_even {s t : State} (name : CommandName) (ran : s.take name (workOf name) = .next t) :
    s.part.StaysEven t.part :=
  State.after_even (fun p => (p.takeAs name (workOf name)).arbitrate)
    ((s.part.takeAs_even name).trans (.of_meter (Part.arbitrate_meter _))) ran

/-- Every row keeps the counters in balance. -/
theorem exec_even (i : Instr) (s t : State) (ran : exec i s = .next t) : s.part.StaysEven t.part := by
  cases i
  case powerOn strap =>
    exact State.after_even (fun _ => Part.initial strap none) (fun _ => Part.initial_balanced strap none) ran
  case resetInput strap =>
    exact State.after_even (fun p => Part.initial strap p.chain.portB) (fun _ => Part.initial_balanced strap _) ran
  case frameArrival bytes =>
    exact State.after_even (fun p => (p.receive bytes).arbitrate)
      ((s.part.receive_even bytes).trans (.of_meter (Part.arbitrate_meter _))) ran
  case transmissionEnd => exact State.after_even Part.endTransmission s.part.endTransmission_even ran
  case stalenessExpiry role =>
    exact State.when_even (fun p => p.staleDue role) (fun p => p.goStale role) (s.part.goStale_even role) ran
  case switchDeadlineExpiry b =>
    exact State.when_even (fun p => p.deadlinePassed (p.branch b).change)
      (fun p => (p.failChange .deadline b).finish) (.of_outer (by simp)) ran
  case heatPendingExpiry z =>
    exact State.when_even (fun p => p.deadlinePassed (p.zone z).change) (fun p => p.failHeatChange z)
      (.of_outer (by simp)) ran
  case modeDeadlineExpiry =>
    exact State.when_even (fun p => p.deadlinePassed p.monitor.change) (fun p => p.modeFailed.finish)
      (.of_outer (by simp)) ran
  case inletStaleGraceExpiry =>
    exact State.when_even Part.inletGraceDue (fun p => (p.terminate .inletStale).finish) (.of_outer (by simp)) ran
  case unknownGraceExpiry =>
    exact State.when_even Part.unknownGraceDue (fun p => (p.terminate .insulationUnknown).finish)
      (.of_outer (by simp)) ran
  case durationTimerExpiry =>
    exact State.when_even Part.durationDue (fun p => (p.terminate .duration).finish) (.of_outer (by simp)) ran
  case burstExpiry z =>
    exact State.when_even (fun p => p.endReached z .burst) (fun p => (p.burstExpires z).finish)
      (.of_outer (by simp)) ran
  case restExpiry z =>
    exact State.when_even (fun p => p.endReached z .rest) (fun p => (p.restExpires z).finish)
      (.of_outer (by simp)) ran
  case minuteTick => exact State.when_even Part.minuteDue Part.minuteTick s.part.minuteTick_even ran
  case wakeIntervalExpiry =>
    exact State.when_even Part.wakeDue (fun p => (p.wake .interval).finish) (s.part.wake_even _).finish ran
  case loadCommitCompletion =>
    exact State.when_even (fun p => p.mgmt.validation.isSome) Part.validationDone s.part.validationDone_even ran
  all_goals exact State.take_even _ ran

/-- R45: 1 ms moves the clock alone. -/
theorem Metering.tick_balanced {m : Metering} (h : m.balanced) : m.tick.balanced := by
  unfold Metering.tick
  split
  · exact h
  · split <;> exact h

/-- Settles O7: a step is a row, an own event, or 1 ms, and each keeps the balance. -/
theorem energyCountersBalance : Obligations.EnergyCountersBalance := by
  intro s t even ran
  unfold step at ran
  split at ran
  · next i rest _ => exact exec_even i { s with pending := rest } t ran even
  · unfold idle at ran
    split at ran
    · next i _ => exact exec_even i s t ran even
    · cases ran
      exact Metering.tick_balanced even

end Sys2Proof.Machine
end

section
/-! PROOFS. The Metering Unit (O23): the division of an increment, bases and increments, where an increment goes, and
the boundaries and closing of a record. -/

namespace Sys2Proof.Machine

/-! ## The division of an increment (R40) -/

/-- R40: what the three shares take of the increment is the whole of it. -/
theorem shares_add_up (e cargoPool heatPool : Nat) :
    let s := shares e cargoPool heatPool
    s.traction + s.heat + s.cargo = e := by
  show e - min cargoPool e - min heatPool (e - min cargoPool e) + min heatPool (e - min cargoPool e)
    + min cargoPool e = e
  omega

/-- R40: both pools are spent, whether or not a record is OPEN. -/
theorem Part.attribute_pools (p : Part) (e : Nat) :
    (p.attribute e).meter.cargoPool = 0 ∧ (p.attribute e).meter.heatPool = 0 := by
  unfold Part.attribute
  simp only [Part.modMeter_meter]
  split <;> exact ⟨rfl, rfl⟩

/-! ## Bases and increments (R35 to R37) -/

/-- R36: the register's advance is counted modulo 2^32. -/
theorem increment_eq (b : EnergyBase) (register : Register32) (epoch : Byte) : increment b register epoch =
    if epoch = b.epoch then (register.toNat + 2 ^ 32 - b.register.toNat) % 2 ^ 32 else register.toNat := by
  have bound := b.register.isLt
  unfold increment
  split
  · rw [BitVec.toNat_sub]
    congr 1
    omega
  · rfl

theorem Part.judgeMeter_of_none {p : Part} {e : NodeEntry} (absent : p.meter.base e.role = none)
    (register : Register32) (epoch : Byte) : p.judgeMeter e register epoch = .baseOnly := by
  unfold Part.judgeMeter
  rw [absent]

theorem Part.judgeMeter_of_some {p : Part} {e : NodeEntry} {b : EnergyBase} (present : p.meter.base e.role = some b)
    (register : Register32) (epoch : Byte) : p.judgeMeter e register epoch =
      if increment b register epoch ≤ plausibleLimit e (p.now - b.time) then
        .accepted (increment b register epoch) else .rejected (increment b register epoch) := by
  unfold Part.judgeMeter
  rw [present]

/-- R36, R37: the two faults that a sample can set on the OPEN record. -/
def RecordFlags.faulted (f : RecordFlags) (discontinuous implausible : Bool) : RecordFlags :=
  { f with discontinuity := f.discontinuity || discontinuous, implausible := f.implausible || implausible }

/-- Flags set one after the other are set in one rewriting of the OPEN record. -/
theorem Part.flagRecord_flagRecord (p : Part) (f g : RecordFlags → RecordFlags) :
    (p.flagRecord f).flagRecord g = p.flagRecord fun x => g (f x) := by
  unfold Part.flagRecord Part.modRecord Part.modStore
  simp only [Option.map_map]
  rfl

theorem Part.flagRecord_id (p : Part) : p.flagRecord (fun f => f) = p := by
  have same : p.store.opened.map (fun r => r) = p.store.opened := Option.map_id'
  exact congrArg (fun x => { p with store := { p.store with opened := x } }) same

/-- Both fault flags in one rewriting of the OPEN record. -/
theorem Part.flagRecord_faults (p : Part) (discontinuous implausible : Bool) :
    p.flagRecord (fun f => f.faulted discontinuous implausible) =
      (let q := if discontinuous then p.flagRecord (fun f => { f with discontinuity := true }) else p
      if implausible then q.flagRecord (fun f => { f with implausible := true }) else q) := by
  cases discontinuous <;> cases implausible <;>
    simp only [RecordFlags.faulted, Bool.or_true, Bool.or_false, Bool.false_eq_true, if_true, if_false]
  case false.false => exact p.flagRecord_id
  case true.true => rw [p.flagRecord_flagRecord]

/-- R37: a sample is rejected when its increment lies above the limit of a base that is present. -/
def Part.implausible (p : Part) (e : NodeEntry) (register : Register32) (epoch : Byte) : Bool :=
  (p.meter.base e.role).any fun b => decide (plausibleLimit e (p.now - b.time) < increment b register epoch)

theorem Part.discontinuous_eq (p : Part) (r : Role) (epoch : Byte) :
    p.discontinuous r epoch = (p.meter.base r).any fun b => epoch != b.epoch := by
  unfold Part.discontinuous
  cases p.meter.base r <;> rfl

/-- R35 to R37: the base moves, and the faults of the sample are set. -/
theorem Part.moveBase_eq (p : Part) (e : NodeEntry) (register : Register32) (epoch : Byte) :
    p.moveBase e register epoch =
      (p.modMeter fun m => m.setBase e.role (some ⟨register, epoch, p.now⟩)).flagRecord fun f =>
        f.faulted (p.discontinuous e.role epoch) (p.implausible e register epoch) := by
  rw [Part.flagRecord_faults]
  unfold Part.moveBase Part.implausible
  cases base : p.meter.base e.role with
  | none => rw [Part.judgeMeter_of_none base]; rfl
  | some b =>
    rw [Part.judgeMeter_of_some base, Option.any_some]
    by_cases plausible : increment b register epoch ≤ plausibleLimit e (p.now - b.time)
    · rw [if_pos plausible, decide_eq_false (Nat.not_lt.mpr plausible)]
      rfl
    · rw [if_neg plausible, decide_eq_true (Nat.not_le.mp plausible)]
      rfl

/-! ## Where an increment goes (R38, R39, R43) -/

theorem Part.meterInlet_eq (p : Part) (e : NodeEntry) (r : InletReadings) :
    let q := p.moveBase e r.register r.epoch
    p.meterInlet e r = match p.judgeMeter e r.register r.epoch with
      | .baseOnly => q
      | .accepted n =>
        let a := (q.attribute n).addTraction (q.sharesOf n).traction
        if q.session.state = .ending then a.takeTail n else a
      | .rejected n => { q with meter := { q.meter with
        inletSeen := q.meter.inletSeen + BitVec.ofNat 48 n
        rejected := q.meter.rejected + BitVec.ofNat 48 n } } := by
  unfold Part.meterInlet
  cases p.judgeMeter e r.register r.epoch <;> rfl

theorem Part.meterHeater_eq (p : Part) (e : NodeEntry) (r : HeaterReadings) :
    let q := p.moveBase e r.register r.epoch
    p.meterHeater e r = match p.judgeMeter e r.register r.epoch with
      | .accepted n => ({ q with meter := { q.meter with
        heatPool := min (q.meter.heatPool + n) 4294967295 } } : Part).chargeManual n
      | _ => q := by
  unfold Part.meterHeater
  cases p.judgeMeter e r.register r.epoch <;> rfl

theorem Part.meterCargo_eq (p : Part) (e : NodeEntry) (r : CargoReadings) :
    let q := p.moveBase e r.register r.epoch
    p.meterCargo e r = match p.judgeMeter e r.register r.epoch with
      | .accepted n => { q with meter := { q.meter with cargoPool := min (q.meter.cargoPool + n) 4294967295 } }
      | _ => q := by
  unfold Part.meterCargo
  cases p.judgeMeter e r.register r.epoch <;> rfl

/-! ## Attribution into the OPEN record (R41, R42) -/

theorem onLast_append (f : Segment → Segment) (before : List Segment) (g : Segment) :
    onLast f (before ++ [g]) = before ++ [f g] := by
  induction before with
  | nil => rfl
  | cons a rest ih =>
    cases rest with
    | nil => rfl
    | cons b more => exact congrArg (a :: ·) ih

/-- R42: with no record OPEN the increment counts as unbilled. -/
theorem Part.attribute_unbilled {p : Part} (n : Nat) (shut : p.store.opened = none) :
    p.attribute n = { p with meter := { p.meter with
      cargoPool := 0, heatPool := 0, inletSeen := p.meter.inletSeen + BitVec.ofNat 48 n
      unbilled := p.meter.unbilled + BitVec.ofNat 48 n } } := by
  have store : { p.store with opened := none } = p.store := by rw [← shut]
  unfold Part.attribute Part.modRecord Part.modStore Part.modMeter
  simp only [shut, Option.map_none, Option.isSome_none, Bool.false_eq_true, if_false, store]
  rfl

/-- R41: with a record OPEN the increment is billed, and its shares go to the record and its last segment. -/
theorem Part.attribute_billed {p : Part} {r : Record} {before : List Segment} {g : Segment} (n : Nat)
    (opened : p.store.opened = some r) (segments : r.segments = before ++ [g]) :
    p.attribute n = { p with
      meter := { p.meter with
        cargoPool := 0, heatPool := 0, inletSeen := p.meter.inletSeen + BitVec.ofNat 48 n
        billed := p.meter.billed + BitVec.ofNat 48 n }
      store := { p.store with opened := some { r with
        inlet := addEnergy r.inlet n
        energy := addShares r.energy (p.sharesOf n)
        segments := before ++ [{ g with energy := addShares g.energy (p.sharesOf n) }]
        packDrawn := addEnergy r.packDrawn (p.sharesOf n).packDrawn } } } := by
  unfold Part.attribute Part.modRecord Part.modStore Part.modMeter Record.attribute
  simp only [opened, Option.map_some, Option.isSome_some, if_true, segments, onLast_append]
  rfl

/-! ## Boundaries and closing (R51 to R54, R165) -/

/-- R51: the band looked up, with a boundary when its index moves. -/
theorem Part.refreshBand_eq (p : Part) :
    let band := activeBand p.meter.tariff p.meter.clock
    let q : Part := { p with meter := { p.meter with band := band } }
    p.refreshBand = if band.index = p.meter.band.index then q else q.formBoundary := by
  intro band q
  unfold Part.refreshBand Part.bandMoves
  by_cases same : band.index = p.meter.band.index
  · rw [if_pos same, if_neg (by simp [band] at same; simp [same])]
    rfl
  · rw [if_neg same, if_pos (by simpa [band] using same)]
    rfl

theorem Part.formBoundary_of_no_record {p : Part} (shut : p.store.opened = none) : p.formBoundary = p := by
  unfold Part.formBoundary
  rw [shut]

theorem Part.closeRecord_of_no_record {p : Part} (shut : p.store.opened = none) : p.closeRecord = p := by
  unfold Part.closeRecord
  rw [shut]

theorem Record.lastEnergy_eq {r : Record} {before : List Segment} {g : Segment}
    (segments : r.segments = before ++ [g]) : r.lastEnergy = g.energy := by
  unfold Record.lastEnergy
  rw [segments, List.getLast?_concat]

/-- R52 step 1: the last segment costed at the costing rates. -/
theorem Record.costed_eq {r : Record} {before : List Segment} {g : Segment} (c : SegmentContext)
    (segments : r.segments = before ++ [g]) :
    r.costed c = { r with cost :=
      ⟨addCost r.cost.traction (costSince g.energy.traction c.mark.traction c.rates.traction),
        addCost r.cost.heat (costSince g.energy.heat c.mark.heat c.rates.heat),
        addCost r.cost.cargo (costSince g.energy.cargo c.mark.cargo c.rates.cargo)⟩ } := by
  unfold Record.costed Record.pendingCost
  rw [Record.lastEnergy_eq segments]
  rfl

section
variable {p : Part} {r : Record} {c : SegmentContext}

/-- R52 step 2: with fewer than eight segments the next one opens under the active band. -/
theorem Part.formBoundary_opens (opened : p.store.opened = some r) (context : p.meter.segment = some c)
    (room : r.segments.length < 8) : p.formBoundary = { p with
      meter := { p.meter with segment := some ⟨⟨0#48, 0#48, 0#48⟩, p.meter.band.rates⟩ }
      store := { p.store with opened := some { r.costed c with
        segments := r.segments ++ [⟨p.meter.band.index, p.meter.band.code, ⟨0#48, 0#48, 0#48⟩⟩] } } } := by
  unfold Part.formBoundary
  rw [opened, context]
  exact if_pos room

/-- R53: the eighth segment is MERGED, and its mark moves to its energy. -/
theorem Part.formBoundary_merges {before : List Segment} {g : Segment} (opened : p.store.opened = some r)
    (context : p.meter.segment = some c) (segments : r.segments = before ++ [g]) (full : 8 ≤ r.segments.length) :
    p.formBoundary = { p with
      meter := { p.meter with segment := some ⟨g.energy, p.meter.band.rates⟩ }
      store := { p.store with opened := some { r.costed c with
        segments := before ++ [{ g with index := 254#8 }]
        flags := { r.flags with merged := true } } } } := by
  have merged : onLast (fun g => { g with index := 254#8 }) r.segments = before ++ [{ g with index := 254#8 }] := by
    rw [segments, onLast_append]
  rw [← merged, ← Record.lastEnergy_eq segments]
  unfold Part.formBoundary
  rw [opened, context]
  exact if_neg (Nat.not_lt.mpr full)

/-- R54, R165: the OPEN record costed, stamped, trimmed to its segments and locked. -/
theorem Part.closeRecord_eq (opened : p.store.opened = some r) (context : p.meter.segment = some c) :
    p.closeRecord = { p with
      meter := { p.meter with segment := none }
      store := { p.store with
        closed := p.store.closed ++ [{ r.costed c with closeStamp := p.meter.clock }]
        opened := none
        head := (r.start + (96 + 24 * r.segments.length)) % p.store.areaSize } } := by
  unfold Part.closeRecord Part.finalRecord
  rw [opened, context]
  rfl

end

/-- Settles O23: each clause is one of the equations above, with the model's figures as the statement spells them. -/
theorem attributionDividesIncrement : Obligations.AttributionDividesIncrement := by
  refine ⟨fun p e => ?_, fun p e register epoch => ?_, Part.meterInlet_eq, Part.meterHeater_eq, Part.meterCargo_eq,
    fun p n => ⟨fun shut => Part.attribute_unbilled n shut,
      fun r before g opened segments => Part.attribute_billed n opened segments⟩,
    fun p => ⟨p.refreshBand_eq,
      fun shut => ⟨Part.formBoundary_of_no_record shut, Part.closeRecord_of_no_record shut⟩⟩,
    fun p r c before g opened context segments => ?_⟩
  · intro c h s
    exact ⟨rfl, rfl, rfl, rfl, shares_add_up e c h, p.attribute_pools e⟩
  · intro base sample n limit
    have based : p.meter.base e.role = base := rfl
    have advanced (b : EnergyBase) : increment b register epoch = n b := increment_eq b register epoch
    constructor
    · cases present : base with
      | none => exact Part.judgeMeter_of_none (based.trans present) register epoch
      | some b =>
        rw [Part.judgeMeter_of_some (based.trans present), advanced]
        rfl
    · rw [Part.moveBase_eq, p.discontinuous_eq, Part.implausible, based]
      simp only [advanced]
      rfl
  · intro band priced costed
    have cost : r.costed c = costed := Record.costed_eq c segments
    rw [← cost]
    exact ⟨Part.formBoundary_opens opened context, Part.formBoundary_merges opened context segments,
      Part.closeRecord_eq opened context⟩

end Sys2Proof.Machine
end

section
/-! PROOFS. The idle step (O2), the minute tick (O35) and SET_CLOCK (O51): what the clock, the active band and the
departures make of each. -/

namespace Sys2Proof.Machine

/-! ## The idle step (R45, logs 1 and 3) -/

theorem idle_of_ownEvent {s : State} {i : Instr} (due : s.part.ownEvent = some i) : idle s = exec i s := by
  unfold idle
  rw [due]

theorem idle_of_no_ownEvent {s : State} (quiet : s.part.ownEvent = none) :
    idle s = .next { s with part := s.part.tick } := by
  unfold idle
  rw [quiet]

theorem Metering.tick_of_invalid {m : Metering} (invalid : m.clock = none) : m.tick = m := by
  unfold Metering.tick
  rw [invalid]

/-- R45: 1 ms of a valid clock. -/
theorem Metering.tick_of_valid {m : Metering} {c : Clock} (valid : m.clock = some c) :
    m.tick = if 1000 ≤ m.clockPhase + 1 ∧ c.second < 59 then
        { m with clock := some { c with second := c.second + 1 }, clockPhase := m.clockPhase + 1 - 1000 }
      else { m with clockPhase := m.clockPhase + 1 } := by
  unfold Metering.tick
  rw [valid]

/-- Settles O2: the two forms of the idle step, and the tick by the clock's validity, phase and second. -/
theorem idleStepTakesOwnEventOrTick : Obligations.IdleStepTakesOwnEventOrTick := by
  refine ⟨fun p i due => idle_of_ownEvent (s := ⟨p, []⟩) due,
    fun p quiet => idle_of_no_ownEvent (s := ⟨p, []⟩) quiet, fun m invalid => Metering.tick_of_invalid invalid,
    fun m c valid early => ?_, fun m c valid full room => ?_, fun m c valid last => ?_⟩
  · rw [Metering.tick_of_valid valid, if_neg (by omega)]
  · rw [Metering.tick_of_valid valid, if_pos ⟨full, room⟩]
  · rw [Metering.tick_of_valid valid, if_neg (by omega)]

/-! ## The active band (R48) -/

/-- With the bands in rising order of start, those at or below a minute come first: the k-th is the last of them when
it has started and none behind it has. -/
theorem startedBands_eq {bands : List TariffBand} {minute k : Nat} {b : TariffBand}
    (rising : bands.Pairwise fun a b => a.start < b.start) (held : bands[k]? = some b) (started : b.start ≤ minute)
    (behind : ∀ e ∈ bands.drop (k + 1), minute < e.start) : startedBands bands minute = k + 1 := by
  induction bands generalizing k with
  | nil => simp at held
  | cons a rest ih =>
    obtain ⟨first, rising⟩ := List.pairwise_cons.mp rising
    cases k with
    | zero =>
      simp only [List.getElem?_cons_zero, Option.some.injEq] at held
      subst held
      have noneBehind : startedBands rest minute = 0 := by
        cases rest with
        | nil => rfl
        | cons e more =>
          have late : minute < e.start := behind e (by simp)
          simp [startedBands, Nat.not_le.mpr late]
      simpa [startedBands, started] using noneBehind
    | succ k =>
      rw [List.getElem?_cons_succ] at held
      have before : a.start ≤ minute := Nat.le_trans (Nat.le_of_lt (first b (List.mem_of_getElem? held))) started
      have rest_eq := ih rising held behind
      simpa [startedBands, before] using rest_eq

theorem startedBands_eq_zero {bands : List TariffBand} {minute : Nat} (late : ∀ e ∈ bands, minute < e.start) :
    startedBands bands minute = 0 := by
  cases bands with
  | nil => rfl
  | cons a rest => simp [startedBands, Nat.not_le.mpr (late a (by simp))]

/-- R48: the active band under a valid clock, by the index that the started bands give. -/
theorem TariffTable.bandAt_of_index {t : TariffTable} {c : Clock} {k : Nat} {b : TariffBand}
    (index : (if startedBands t.bands c.minute = 0 then t.bands.length - 1 else startedBands t.bands c.minute - 1) = k)
    (held : t.bands[k]? = some b) : t.bandAt (some c) = ⟨BitVec.ofNat 8 k, b.code, b.rates⟩ := by
  unfold TariffTable.bandAt
  dsimp only
  rw [index, held]

theorem activeBand_of_started {t : Loaded TariffTable} {c : Clock} {k : Nat} {b : TariffBand}
    (rising : t.table.bands.Pairwise fun a b => a.start < b.start) (held : t.table.bands[k]? = some b)
    (started : b.start ≤ c.minute) (behind : ∀ e ∈ t.table.bands.drop (k + 1), c.minute < e.start) :
    activeBand (some t) (some c) = ⟨BitVec.ofNat 8 k, b.code, b.rates⟩ :=
  TariffTable.bandAt_of_index (by rw [startedBands_eq rising held started behind]; rfl) held

theorem activeBand_before_first {t : Loaded TariffTable} {c : Clock} {k : Nat} {b : TariffBand}
    (held : t.table.bands[k]? = some b) (last : k + 1 = t.table.bands.length)
    (late : ∀ e ∈ t.table.bands, c.minute < e.start) :
    activeBand (some t) (some c) = ⟨BitVec.ofNat 8 k, b.code, b.rates⟩ :=
  TariffTable.bandAt_of_index (by rw [startedBands_eq_zero late, ← last]; rfl) held

/-! ## The band refreshed (R51), and what that leaves -/

/-- A segment boundary is a matter of the Record Store and of the segment that the Metering Unit keeps. -/
theorem Part.formBoundary_frame (p : Part) : ∃ store segment,
    p.formBoundary = { p with store := store, meter := { p.meter with segment := segment } } := by
  unfold Part.formBoundary
  split
  · dsimp only
    split
    · exact ⟨_, _, rfl⟩
    · exact ⟨_, _, rfl⟩
  · exact ⟨_, _, rfl⟩

/-- R48, R51: the band looked up, and beside it only what a boundary writes. -/
theorem Part.refreshBand_frame (p : Part) : ∃ store segment,
    p.refreshBand = { p with
      store := store
      meter := { p.meter with segment := segment, band := activeBand p.meter.tariff p.meter.clock } } := by
  unfold Part.refreshBand
  split
  · exact Part.formBoundary_frame p.lookUpBand
  · exact ⟨_, _, rfl⟩

@[simp] theorem Part.refreshBand_heat (p : Part) : p.refreshBand.heat = p.heat := by
  obtain ⟨store, segment, same⟩ := p.refreshBand_frame
  rw [same]

@[simp] theorem Part.refreshBand_nodes (p : Part) : p.refreshBand.nodes = p.nodes := by
  obtain ⟨store, segment, same⟩ := p.refreshBand_frame
  rw [same]

@[simp] theorem Part.refreshBand_clock (p : Part) : p.refreshBand.meter.clock = p.meter.clock := by
  obtain ⟨store, segment, same⟩ := p.refreshBand_frame
  rw [same]

@[simp] theorem Part.refreshBand_band (p : Part) :
    p.refreshBand.meter.band = activeBand p.meter.tariff p.meter.clock := by
  obtain ⟨store, segment, same⟩ := p.refreshBand_frame
  rw [same]

@[simp] theorem Part.refreshBand_mgmt (p : Part) : p.refreshBand.mgmt = p.mgmt := by
  obtain ⟨store, segment, same⟩ := p.refreshBand_frame
  rw [same]

/-! ## Departures done (R118, R119) -/

@[simp] theorem Part.raise_heat (p : Part) (b : NoticeBody) : (p.raise b).heat = p.heat := rfl
@[simp] theorem Part.raise_meter (p : Part) (b : NoticeBody) : (p.raise b).meter = p.meter := rfl

/-- DEPARTURE_DONE for entries in list order, with the pack's reading as it stands: a notice changes none. -/
theorem Part.raiseDepartures_eq (reason : DepartureReason) (ds : List Departure) (p : Part) :
    Part.raiseDepartures reason ds p = ds.foldl (fun (a : Part) d =>
      a.raise (.departureDone d.minute d.target d.weekly reason (p.nodes.pack.map PackReadings.coldest))) p := by
  induction ds generalizing p with
  | nil => rfl
  | cons d rest ih =>
    rw [Part.raiseDepartures, ih, List.foldl_cons]
    rfl

/-- Notices in a row leave what one notice leaves. -/
theorem Part.raiseDepartures_keeps {α : Type} (read : Part → α) (same : ∀ p b, read (p.raise b) = read p)
    (reason : DepartureReason) (ds : List Departure) (p : Part) :
    read (Part.raiseDepartures reason ds p) = read p := by
  induction ds generalizing p with
  | nil => rfl
  | cons d rest ih => exact (ih _).trans (same p _)

@[simp] theorem Part.raiseDepartures_heat (reason : DepartureReason) (ds : List Departure) (p : Part) :
    (Part.raiseDepartures reason ds p).heat = p.heat :=
  Part.raiseDepartures_keeps Part.heat (fun _ _ => rfl) reason ds p

@[simp] theorem Part.raiseDepartures_meter (reason : DepartureReason) (ds : List Departure) (p : Part) :
    (Part.raiseDepartures reason ds p).meter = p.meter :=
  Part.raiseDepartures_keeps Part.meter (fun _ _ => rfl) reason ds p

/-! ## Windows (R117) -/

theorem Part.evalWindows_of_no_table {p : Part} (absent : p.heat.table = none) : p.evalWindows = p := by
  simp only [Part.evalWindows, Part.leadInForce, absent, Option.map_none]

/-- R117: the lead in force, by the coldest minimum of a LIVE pack. -/
theorem Part.evalWindows_of_table {p : Part} {t : Loaded HeatTable} (table : p.heat.table = some t) :
    let lead := match p.livePack with
      | none => t.table.largestLead
      | some r => match t.table.leads.find? (fun e => decide (r.coldest ≤ e.upper)) with
        | none => 0
        | some e => e.lead
    p.evalWindows = { p with heat := { p.heat with departures := p.heat.departures.map fun d =>
      { d with active := d.active || decide (d.minutesToGo ≤ lead) } } } := by
  intro lead
  have inForce : p.leadInForce = some lead := by
    unfold Part.leadInForce
    rw [table]
    rfl
  unfold Part.evalWindows
  rw [inForce]
  rfl

/-- The windows are a matter of the departure list alone. -/
theorem Part.evalWindows_frame (p : Part) : ∃ departures,
    p.evalWindows = { p with heat := { p.heat with departures := departures } } := by
  cases table : p.heat.table with
  | none => exact ⟨p.heat.departures, Part.evalWindows_of_no_table table⟩
  | some t => exact ⟨_, Part.evalWindows_of_table table⟩

/-! ## The minute tick (R45, R118, R175) -/

theorem Clock.nextMinute_eq (c : Clock) : c.nextMinute =
    if c.minute + 1 < 10080 then ⟨c.week, c.minute + 1, 0⟩
      else if c.week = 65535 then ⟨0, 0, 0⟩ else ⟨c.week + 1, 0, 0⟩ := by
  unfold Clock.nextMinute
  split
  · rfl
  · split <;> rfl

theorem Part.minuteDue_of_full {p : Part} {c : Clock} (valid : p.meter.clock = some c) (last : 59 ≤ c.second)
    (full : 1000 ≤ p.meter.clockPhase) : p.minuteDue = true := by
  unfold Part.minuteDue
  rw [valid]
  simp [last, full]

theorem Part.countMinute_eq {p : Part} {c : Clock} (valid : p.meter.clock = some c) :
    p.countMinute = { p with meter :=
      { p.meter with clock := some c.nextMinute, clockPhase := p.meter.clockPhase - 1000 } } := by
  have next : p.meter.clock.map Clock.nextMinute = some c.nextMinute := by rw [valid]; rfl
  rw [← next]
  rfl

/-- R118: the departures counted down, entry by entry. -/
theorem Part.countDownDepartures_eq (p : Part) :
    let counted := p.heat.departures.map fun d => { d with minutesToGo := d.minutesToGo - 1 }
    let reached := counted.filter fun d => d.minutesToGo == 0
    let told := reached.foldl (fun (a : Part) d =>
      a.raise (.departureDone d.minute d.target d.weekly .reached (p.nodes.pack.map PackReadings.coldest))) p
    let again := (reached.filter fun d => d.weekly).map fun d => { d with minutesToGo := 10080, active := false }
    let left := (counted.filter fun d => d.minutesToGo != 0) ++ again
    p.countDownDepartures = { told with heat := { told.heat with departures := left } } := by
  intro counted reached told again left
  have all : told = Part.raiseDepartures .reached reached p := (Part.raiseDepartures_eq _ _ _).symm
  rw [all]
  rfl

/-- R175: the departure wake's test, on the first entry and the largest lead. -/
theorem Part.departureWakes_iff (p : Part) : p.departureWakes = true ↔
    p.mgmt.partState = .dormant ∧ ∃ d more t, p.heat.departures = d :: more
      ∧ p.heat.table = some t ∧ d.minutesToGo ≤ t.table.largestLead ∧ 0 < t.table.largestLead := by
  unfold Part.departureWakes Part.firstToGo
  rw [Bool.and_eq_true, beq_iff_eq]
  refine and_congr_right fun _ => ?_
  cases p.heat.departures with
  | nil => simp
  | cons d more =>
    cases p.heat.table with
    | none => simp
    | some t => simp

@[simp] theorem Part.evalWindows_heatTable (p : Part) : p.evalWindows.heat.table = p.heat.table := by
  obtain ⟨departures, same⟩ := p.evalWindows_frame
  rw [same]

@[simp] theorem Part.countDownDepartures_heatTable (p : Part) :
    p.countDownDepartures.heat.table = p.heat.table := by
  simp [Part.countDownDepartures]

/-- The part state is among what a block's operation keeps. -/
theorem Part.partState_of_outer {p q : Part} (h : q.outer = p.outer) : q.mgmt.partState = p.mgmt.partState :=
  congrArg (fun o => o.core.partState) h

/-- R45: a minute tick that is due. -/
theorem exec_minuteTick {s : State} {c : Clock} (valid : s.part.meter.clock = some c) (last : 59 ≤ c.second)
    (full : 1000 ≤ s.part.meter.clockPhase) : exec .minuteTick s = s.leaves s.part.minuteTick :=
  State.after_when_due (due := Part.minuteDue) Part.minuteTick (Part.minuteDue_of_full valid last full)

/-- Settles O35: the tick stage by stage, the wake's test, the windows, and the band by its index. -/
theorem minuteTickCountsOn : Obligations.MinuteTickCountsOn := by
  refine ⟨?_, fun p => ⟨Part.evalWindows_of_no_table, fun t => Part.evalWindows_of_table⟩, fun _ => rfl,
    fun t => ⟨rfl, fun rising c k b held => ⟨activeBand_of_started rising held, activeBand_before_first held⟩⟩⟩
  intro c s p valid last full next q counted reached told again left r wakes
  have refreshed : p.countMinute.refreshBand = q := by rw [Part.countMinute_eq valid, Clock.nextMinute_eq]
  have heat : q.heat = p.heat := Part.refreshBand_heat _
  have nodes : q.nodes = p.nodes := Part.refreshBand_nodes _
  have counts : q.countDownDepartures.evalWindows = r := by
    rw [Part.countDownDepartures_eq, heat, nodes]
  have table : r.heat.table = p.heat.table := by
    rw [← counts, Part.evalWindows_heatTable, Part.countDownDepartures_heatTable, heat]
  have partState : r.mgmt.partState = p.mgmt.partState := by
    rw [← counts, ← refreshed]
    exact Part.partState_of_outer (by simp [Part.countMinute, Metering.asEven])
  have wakes_iff : r.departureWakes = true ↔ wakes := by rw [Part.departureWakes_iff, partState, table]
  have ticked : exec .minuteTick s = s.leaves (if r.departureWakes then r.wake .departure else r).finish := by
    rw [exec_minuteTick valid last full, Part.minuteTick, refreshed, counts]
  rw [ticked]
  exact ⟨fun wake => by rw [if_pos (wakes_iff.mpr wake)], fun sleep => by rw [if_neg (mt wakes_iff.mp sleep)]⟩

/-! ## The order of departures (R117, R119) -/

/-- An entry goes behind those that are due no later, and before the rest. -/
theorem insertDeparture_eq (d : Departure) {ds : List Departure}
    (ordered : ds.Pairwise fun a b => a.minutesToGo ≤ b.minutesToGo) :
    ∃ before behind, ds = before ++ behind ∧ insertDeparture d ds = before ++ d :: behind
      ∧ (∀ e ∈ before, e.minutesToGo ≤ d.minutesToGo) ∧ ∀ e ∈ behind, d.minutesToGo < e.minutesToGo := by
  induction ds with
  | nil => exact ⟨[], [], rfl, rfl, nofun, nofun⟩
  | cons a rest ih =>
    obtain ⟨first, ordered⟩ := List.pairwise_cons.mp ordered
    unfold insertDeparture
    split
    · next sooner =>
      refine ⟨[], a :: rest, rfl, rfl, nofun, fun e held => ?_⟩
      rcases List.mem_cons.mp held with rfl | held
      · exact sooner
      · exact Nat.lt_of_lt_of_le sooner (first e held)
    · next later =>
      obtain ⟨before, behind, split, placed, noLater, after⟩ := ih ordered
      refine ⟨a :: before, behind, by rw [split]; rfl, by rw [placed]; rfl, fun e held => ?_, after⟩
      rcases List.mem_cons.mp held with rfl | held
      · exact Nat.not_lt.mp later
      · exact noLater e held

theorem insertDeparture_perm (d : Departure) (ds : List Departure) : (insertDeparture d ds).Perm (d :: ds) := by
  induction ds with
  | nil => exact .refl _
  | cons a rest ih =>
    unfold insertDeparture
    split
    · exact .refl _
    · exact (ih.cons a).trans (.swap d a rest)

theorem insertDeparture_ordered (d : Departure) {ds : List Departure}
    (ordered : ds.Pairwise fun a b => a.minutesToGo ≤ b.minutesToGo) :
    (insertDeparture d ds).Pairwise fun a b => a.minutesToGo ≤ b.minutesToGo := by
  obtain ⟨before, behind, split, placed, noLater, after⟩ := insertDeparture_eq d ordered
  rw [split] at ordered
  obtain ⟨first, second, across⟩ := List.pairwise_append.mp ordered
  rw [placed]
  refine List.pairwise_append.mpr
    ⟨first, List.pairwise_cons.mpr ⟨fun e held => Nat.le_of_lt (after e held), second⟩, fun a held e joined => ?_⟩
  rcases List.mem_cons.mp joined with rfl | joined
  · exact noLater a held
  · exact across a held e joined

theorem orderDepartures_perm (ds : List Departure) : (orderDepartures ds).Perm ds := by
  induction ds with
  | nil => exact .refl _
  | cons d rest ih => exact (insertDeparture_perm d _).trans (ih.cons d)

theorem orderDepartures_ordered (ds : List Departure) :
    (orderDepartures ds).Pairwise fun a b => a.minutesToGo ≤ b.minutesToGo := by
  induction ds with
  | nil => exact .nil
  | cons d rest ih => exact insertDeparture_ordered d ih

/-! ## SET_CLOCK (R46, R119) -/

/-- R119: the departures moved, with the entries that have passed told. -/
theorem Part.moveDepartures_eq (p : Part) (old new : Clock) :
    let distance : Int := ((new.week : Int) - old.week) * 10080 + ((new.minute : Int) - old.minute)
    let passed := p.heat.departures.filter fun d => decide ((d.minutesToGo : Int) ≤ distance)
    let told := passed.foldl (fun (a : Part) d =>
      a.raise (.departureDone d.minute d.target d.weekly .passed (p.nodes.pack.map PackReadings.coldest))) p
    let kept := p.heat.departures.filter fun d => d.weekly || decide (distance < (d.minutesToGo : Int))
    let moved := kept.map fun d => { d with
      minutesToGo :=
        let ahead := (d.minute + 10080 - new.minute) % 10080
        if ahead = 0 then 10080 else ahead
      active := false }
    p.moveDepartures old new = { told with heat := { told.heat with departures := orderDepartures moved } } := by
  intro distance passed told kept moved
  have all : told = Part.raiseDepartures .passed passed p := (Part.raiseDepartures_eq _ _ _).symm
  rw [all]
  rfl

@[simp] theorem Part.moveDepartures_meter (p : Part) (old new : Clock) :
    (p.moveDepartures old new).meter = p.meter := by
  simp [Part.moveDepartures]

@[simp] theorem Part.evalWindows_meter (p : Part) : p.evalWindows.meter = p.meter := by
  obtain ⟨departures, same⟩ := p.evalWindows_frame
  rw [same]

@[simp] theorem Part.finish_clock (p : Part) : p.finish.meter.clock = p.meter.clock :=
  congrArg Steady.clock p.finish_steady

@[simp] theorem Part.finish_band (p : Part) : p.finish.meter.band = p.meter.band :=
  congrArg Steady.band p.finish_steady

/-- R46: the time and the band that stand after SET_CLOCK, whether or not the departures move. -/
theorem Part.setClock_meter (p : Part) (clock : Clock) :
    (p.setClock clock).meter.clock = some clock
      ∧ (p.setClock clock).meter.band = activeBand p.meter.tariff (some clock) := by
  unfold Part.setClock
  dsimp only
  split <;> simp

theorem Part.setClock_outer (p : Part) (clock : Clock) : (p.setClock clock).outer = p.outer := by
  unfold Part.setClock
  dsimp only
  split <;> simp [Metering.asEven]

/-- R46: SET_CLOCK's work, refused or taken. -/
theorem setClockWork_eq (p : Part) (c : Frame) :
    let clock : Clock := ⟨u16 c.payload 3, u16 c.payload 5, u8 c.payload 7⟩
    let band := activeBand p.meter.tariff (some clock)
    setClockWork p c = if 10079 < clock.minute ∨ 59 < clock.second then p.refuse .range
      else .answer (p.setClock clock).finish .ok
        (beBytes 2 clock.week ++ beBytes 2 clock.minute ++ beBytes 1 clock.second
          ++ [band.index, band.code, flagByte (p.store.opened.isSome && band.index != p.meter.band.index)]) := by
  intro clock band
  obtain ⟨time, lookedUp⟩ := p.setClock_meter clock
  unfold setClockWork
  dsimp only
  rw [Part.finish_clock, Part.finish_band, time, lookedUp]
  rfl

/-- R46: the outcome of SET_CLOCK. -/
theorem exec_setClock {s : State} {c : Frame} {rest : List Frame} (admits : s.part.Admits .setClock c rest) :
    let clock : Clock := ⟨u16 c.payload 3, u16 c.payload 5, u8 c.payload 7⟩
    let band := activeBand s.part.meter.tariff (some clock)
    exec .setClock s = if 10079 < clock.minute ∨ 59 < clock.second then s.answers s.part c rest .range []
      else s.answers (s.part.setClock clock).finish c rest .ok
        (beBytes 2 clock.week ++ beBytes 2 clock.minute ++ beBytes 1 clock.second
          ++ [band.index, band.code,
            flagByte (s.part.store.opened.isSome && band.index != s.part.meter.band.index)]) := by
  intro clock band
  have work := setClockWork_eq s.part c
  dsimp only at work
  split
  · next refused =>
    rw [if_pos refused] at work
    exact State.take_refuses (name := .setClock) nofun admits work
  · next taken =>
    rw [if_neg taken] at work
    refine State.take_answers (name := .setClock) nofun admits work ?_
    rw [Part.finish_commands]
    exact congrArg (fun o => o.core.commands) (s.part.setClock_outer clock)

/-- Settles O51: the outcome, the time and band that stand after it, the move, and the order of what stays. -/
theorem setClockSetsTime : Obligations.SetClockSetsTime := by
  refine ⟨?_, Part.moveDepartures_eq, fun ds => ⟨orderDepartures_perm ds, orderDepartures_ordered ds⟩, rfl, ?_⟩
  · intro c rest s admits p clock q r band
    have set : r = (p.setClock clock).finish := by
      unfold r Part.setClock
      dsimp only
      cases p.meter.clock <;> rfl
    obtain ⟨time, lookedUp⟩ := p.setClock_meter clock
    rw [set]
    exact ⟨exec_setClock admits, p.setClock clock |>.finish_clock.trans time,
      p.setClock clock |>.finish_band.trans lookedUp⟩
  · intro d ds
    exact insertDeparture_eq d (orderDepartures_ordered ds)

end Sys2Proof.Machine
end

section
/-! PROOFS. The power budget: every step keeps the grants within the free power (O8), and the grants by order mode with
the recompute, its cuts and its hand-over (O24). -/

namespace Sys2Proof.Machine

/-! ## The grants stay within the free power (R62) -/

/-- R7, R17: what leaves port B has no part in the Budget Arbiter. -/
theorem Part.sendForward_budget (p : Part) (f : Frame) (rest : List Frame) :
    (p.sendForward f rest).budget = p.budget := by
  unfold Part.sendForward
  dsimp only
  split
  · rfl
  · split <;> rfl

theorem Part.sendAnswer_budget (p : Part) (a : Answer) (rest : List Answer) :
    (p.sendAnswer a rest).budget = p.budget := by
  unfold Part.sendAnswer
  split <;> rfl

/-- R7: the outbound arbiter grants nothing. -/
theorem Part.arbitrate_budget (p : Part) : p.arbitrate.budget = p.budget := by
  unfold Part.arbitrate
  split
  case h_1 => rfl
  case h_2 =>
    split
    case h_1 => rfl
    case h_2 =>
      split
      case h_1 => exact p.sendForward_budget _ _
      case h_2 =>
        split
        case h_1 => exact p.sendAnswer_budget _ _
        case h_2 => split <;> rfl

/-- R70: before the first recompute nothing is granted. -/
theorem Part.initial_grantsWithin (strap : BitVec 2) (portB : Option Frame) :
    (Part.initial strap portB).grantsWithin :=
  Nat.le_refl 0

theorem grantsWithin_keptByEvents : KeptByEvents Part.grantsWithin where
  initial := Part.initial_grantsWithin
  finish := Part.finish_grantsWithin
  arbitrate p within := Part.grantsWithin_of_budget p.arbitrate_budget within
  congr _ _ same within := Part.grantsWithin_of_budget (congrArg Settled.budget same) within

/-- Settles O8: the end of an event leaves the grants within the free power, and nothing outside it moves a grant or
a figure. -/
theorem grantsStayWithinFreePower : Obligations.GrantsStayWithinFreePower :=
  fun _ _ within ran => grantsWithin_keptByEvents.step within ran

/-! ## Grants by order mode (R63, R64, R67) -/

theorem grantHeat_fits {a : HeatAsk} {f : Nat} (rest : List HeatAsk) (fits : a.power ≤ f) :
    grantHeat (a :: rest) f = a :: grantHeat rest (f - a.power) :=
  if_pos fits

theorem grantHeat_stops {a : HeatAsk} {f : Nat} (rest : List HeatAsk) (exceeds : f < a.power) :
    grantHeat (a :: rest) f = [] :=
  if_neg (Nat.not_le.mpr exceeds)

/-- R63: what heat leaves is charge's. -/
theorem grantHeatFirst_within (asks : List HeatAsk) (charge free : Nat) :
    (grantHeatFirst asks charge free).heat + (grantHeatFirst asks charge free).charge ≤ free := by
  have heat := askedPower_grantHeat asks free
  simp only [grantHeatFirst]
  omega

/-- R64: charge up to the floor, heat, and charge again never exceed the power to grant. -/
theorem grantChargeFirst_within (asks : List HeatAsk) (charge floor free : Nat) :
    (grantChargeFirst asks charge floor free).heat + (grantChargeFirst asks charge floor free).charge ≤ free := by
  have heat := askedPower_grantHeat asks (free - min (min charge floor) free)
  simp only [grantChargeFirst]
  omega

/-- R64: a charge request up to the floor is served before any heat. -/
theorem grantChargeFirst_charge_of_le_floor (asks : List HeatAsk) {charge floor : Nat} (free : Nat)
    (below : charge ≤ floor) : (grantChargeFirst asks charge floor free).charge = min charge free := by
  simp only [grantChargeFirst, Nat.min_eq_left below]
  omega

/-- R64: with a floor of 0 charge takes only what heat leaves. -/
theorem grantChargeFirst_zero_floor (asks : List HeatAsk) (charge free : Nat) :
    grantChargeFirst asks charge 0 free = grantHeatFirst asks charge free := by
  simp [grantChargeFirst, grantHeatFirst]

/-- R67, log 11: the locate freeze grants nothing, nor does a part with no BUDGET table in force. -/
theorem Part.grantsFor_withheld {p : Part} (asks : List HeatAsk) (charge : Nat)
    (withheld : p.budget.freeze = true ∨ p.budget.table = none) : p.grantsFor asks charge = ⟨[], 0, 0⟩ := by
  unfold Part.grantsFor
  rcases withheld with freeze | absent
  · rw [freeze]
  · rw [absent]
    cases p.budget.freeze <;> rfl

theorem Part.grantsFor_heatFirst {p : Part} {t : Loaded BudgetTable} (asks : List HeatAsk) (charge : Nat)
    (thawed : p.budget.freeze = false) (table : p.budget.table = some t) (mode : t.table.orderMode = .heatFirst) :
    p.grantsFor asks charge = grantHeatFirst asks charge (p.budget.available - p.budget.reservation) := by
  simp only [Part.grantsFor, thawed, table, mode, Budget.free]

theorem Part.grantsFor_chargeFirst {p : Part} {t : Loaded BudgetTable} (asks : List HeatAsk) (charge : Nat)
    (thawed : p.budget.freeze = false) (table : p.budget.table = some t) (mode : t.table.orderMode = .chargeFirst) :
    p.grantsFor asks charge
      = grantChargeFirst asks charge t.table.chargeFloor (p.budget.available - p.budget.reservation) := by
  simp only [Part.grantsFor, thawed, table, mode, Budget.free]

/-! ## Requests (R61) -/

/-- R61: bursting zones ask first, each at the power its burst runs at; with no HEAT table a waiting zone asks for 0
(log 33). -/
theorem Part.heatAsk_eq (p : Part) : p.heatAsk =
    p.heat.burstOrder.map (fun z => (⟨z, (p.zone z).elementPower.getD 0, true⟩ : HeatAsk))
      ++ p.heat.waitList.map fun z => ⟨z, p.heat.table.elim 0 fun t => (t.table.zones.get z).power, false⟩ := by
  have waiting (z : Zone) :
      p.waitingAsk z = ⟨z, p.heat.table.elim 0 fun t => (t.table.zones.get z).power, false⟩ := by
    unfold Part.waitingAsk Part.zoneRecord
    cases p.heat.table <;> rfl
  unfold Part.heatAsk
  rw [funext waiting]
  rfl

/-! ## The end of an event at the Budget Arbiter (R62, R68) -/

/-- R55 to R57, R60, R68: the figures and the overdrawn latch, with BUDGET_OVERDRAWN as the condition comes to hold. -/
theorem Part.setFigures_checkOverdrawn_eq (p : Part) :
    let b : Budget := { p.budget with
      source := p.sourceNow
      socAbove := p.socAboveNow
      available := p.availableOn p.sourceNow
      reservation := p.reservationOn p.sourceNow }
    let holds := (b.source = .ac ∨ b.source = .dc) ∧ b.available ≤ b.reservation
    let marked : Part := { p with budget := { b with overdrawn := decide holds } }
    p.setFigures.checkOverdrawn = if holds ∧ p.budget.overdrawn = false
      then marked.raise (.budgetOverdrawn b.source b.available b.reservation) else marked := by
  intro b holds marked
  have latched : b.overdrawnNow = decide holds := b.overdrawnNow_eq
  have marks : p.setFigures.modBudget (fun b => { b with overdrawn := b.overdrawnNow }) = marked := by
    show ({ p with budget := { b with overdrawn := b.overdrawnNow } } : Part) = marked
    rw [latched]
  have comes : (b.overdrawnNow && !b.overdrawn) = true ↔ holds ∧ p.budget.overdrawn = false := by
    rw [latched, Bool.and_eq_true, decide_eq_true_eq, Bool.not_eq_true']
  unfold Part.checkOverdrawn
  dsimp only
  rw [marks]
  exact ite_congr (propext comes) (fun _ => rfl) fun _ => rfl

theorem Part.movedBy_iff (p : Part) (value basis : Nat) : p.movedBy value basis = true ↔
    ∃ t, p.budget.table = some t ∧ t.table.hysteresis ≤ (value - basis) + (basis - value) := by
  unfold Part.movedBy
  cases p.budget.table <;> simp

/-- R62: the causes of a recompute. -/
theorem Part.recomputeCaused_iff (p : Part) (old : Budget) :
    let b := p.budget
    p.recomputeCaused old = true ↔ b.recomputeDue = true ∨ b.source ≠ old.source ∨ b.socAbove ≠ old.socAbove
      ∨ (b.available ≠ old.available ∧ p.movedBy b.available b.basisAvailable = true)
      ∨ (b.reservation ≠ old.reservation ∧ p.movedBy b.reservation b.basisReservation = true)
      ∨ b.available - b.reservation < b.heatGrant + b.chargeGrant
      ∨ p.heatAsk ≠ b.heatRequest ∨ p.chargeAsk ≠ b.chargeRequest := by
  have free : p.budget.available - p.budget.reservation = p.budget.free := rfl
  simp only [Part.recomputeCaused, free, Bool.or_eq_true, Bool.and_eq_true, bne_iff_ne, decide_eq_true_eq,
    or_assoc, ne_comm (a := p.chargeAsk)]

/-- R62, R66: the Budget Arbiter recomputes when a cause is met, and once more when the hand-over changes the heat
request. -/
theorem Part.settleBudget_cases (p : Part) :
    let f := p.setFigures.checkOverdrawn
    let entered := f.recompute.enterBursts
    (¬ f.recomputeCaused p.budget = true → p.settleBudget = f)
      ∧ (f.recomputeCaused p.budget = true → entered.heatAsk = entered.budget.heatRequest →
        p.settleBudget = entered)
      ∧ (f.recomputeCaused p.budget = true → entered.heatAsk ≠ entered.budget.heatRequest →
        p.settleBudget = entered.recompute) := by
  intro f entered
  have handsOver (caused : f.recomputeCaused p.budget = true) : p.settleBudget = f.recomputeAndHandOver := if_pos caused
  exact ⟨fun quiet => if_neg quiet, fun caused same => (handsOver caused).trans (if_pos same),
    fun caused changed => (handsOver caused).trans (if_neg changed)⟩

/-! ## The recompute and its cuts (R62, R65) -/

theorem Part.cutZones_eq (p : Part) (g : Grants) :
    p.cutZones g = (p.heat.burstOrder.filter fun z => g.asks.all fun a => a.zone != z).reverse := by
  simp only [Part.cutZones, List.not_any_eq_all_not, bne]

/-- R65: no burst is cut under the freeze or on no source; otherwise those that the grant does not reach, newest
first. -/
theorem Part.cutBursts_eq (p : Part) :
    p.cutBursts = if p.budget.freeze = true ∨ p.budget.source = .none then p
      else (p.heat.burstOrder.filter fun z =>
        (p.grantsFor p.heatAsk p.chargeAsk).asks.all fun a => a.zone != z).reverse.foldl
          (fun (q : Part) z => q.endBurst .cut z) p := by
  unfold Part.cutBursts
  rw [Part.endBurstsOf_eq_foldl, Part.cutZones_eq]
  simp only [Bool.or_eq_true, beq_iff_eq]

/-! ## The hand-over (R66, R104) -/

theorem Part.enterBursts_of_absent {p : Part} (absent : p.heat.table = none) : p.enterBursts = p := by
  rw [Part.enterBursts, absent]

theorem Part.enterBursts_of_table {p : Part} {t : Loaded HeatTable} (table : p.heat.table = some t) :
    p.enterBursts = Part.enterFrom t.table p.heat.waitList p := by
  rw [Part.enterBursts, table]

/-- R104: the burst limit of a concurrency mode. -/
theorem ConcurrencyMode.allows_iff (m : ConcurrencyMode) (count : Nat) :
    m.allows count = true ↔ m = .all ∨ count < (if m = .pair then 2 else 1) := by
  cases m <;> simp [ConcurrencyMode.allows]

theorem HeatTable.burstSeconds_eq (t : HeatTable) (k : ZoneRecord) :
    t.burstSeconds k = if k.kind = .short then t.short else t.long := by
  unfold HeatTable.burstSeconds
  cases k.kind <;> rfl

/-- R104, R113: a zone enters BURST: it leaves the wait list, joins the burst order at the end and is driven on. -/
theorem Part.startBurst_eq (p : Part) (t : HeatTable) (z : Zone) :
    let k := t.zones.get z
    let c : ZoneContext := { p.zone z with
      state := .burst
      elementPower := some k.power
      extensions := 0
      endTime := some (p.now + 1000 * (if k.kind = .short then t.short else t.long))
      heatOn := true
      change := some ⟨true, p.now + 300⟩ }
    let zones := p.heat.zones.set z c
    let begun : Part := { p with heat := { p.heat with
      zones := zones, waitList := p.heat.waitList.erase z, burstOrder := p.heat.burstOrder ++ [z] } }
    p.startBurst t z = (begun.queueDrive (.heatSet (zones.map fun x => x.heatOn))).raise (.heatZone z .start) := by
  dsimp only
  rw [← t.burstSeconds_eq (t.zones.get z)]
  rfl

/-- R104: the hand-over goes on from a zone that enters, and stops at the first that does not. -/
theorem Part.enterFrom_cons (t : HeatTable) (z : Zone) (rest : List Zone) (p : Part) :
    Part.enterFrom t (z :: rest) p =
      if z ∈ p.budget.granted ∧ (t.mode = .all ∨ p.heat.burstOrder.length < (if t.mode = .pair then 2 else 1))
      then Part.enterFrom t rest (p.startBurst t z) else p := by
  refine ite_congr (propext ?_) (fun _ => rfl) fun _ => rfl
  rw [Bool.and_eq_true, List.contains_iff_mem, ConcurrencyMode.allows_iff]
  rfl

/-! ## Grants, recompute and hand-over (O24) -/

/-- Settles O24: rule by rule, from the equations of the Budget Arbiter and the hand-over. -/
theorem grantsFollowOrderMode : Obligations.GrantsFollowOrderMode := by
  refine ⟨?_, ?_, grantChargeFirst_zero_floor, fun _ rest _ => grantHeat_fits rest,
    fun _ rest _ => grantHeat_stops rest, fun _ => rfl, ?_, Part.heatAsk_eq, ?_, ?_,
    fun _ => Part.enterBursts_of_absent, fun _ _ => Part.enterBursts_of_table, ?_⟩
  · intro asks charge free
    exact ⟨rfl, rfl, rfl, grantHeatFirst_within asks charge free⟩
  · intro asks charge floor free g first
    have floored : min (min charge floor) free = first := Nat.min_assoc ..
    rw [← floored]
    exact ⟨rfl, rfl, rfl, grantChargeFirst_within asks charge floor free,
      grantChargeFirst_charge_of_le_floor asks free⟩
  · intro p asks charge
    exact ⟨Part.grantsFor_withheld asks charge, fun t thawed table =>
      ⟨Part.grantsFor_heatFirst asks charge thawed table, Part.grantsFor_chargeFirst asks charge thawed table⟩⟩
  · intro p b holds marked f far caused entered
    have settled : p.setFigures.checkOverdrawn = f := p.setFigures_checkOverdrawn_eq
    have budget : f.budget = marked.budget := by unfold f; split <;> rfl
    have heatAsk : f.heatAsk = p.heatAsk := by unfold f; split <;> rfl
    have chargeAsk : f.chargeAsk = p.chargeAsk := by unfold f; split <;> rfl
    have causes : f.recomputeCaused p.budget = true ↔ caused := by
      have iff := f.recomputeCaused_iff p.budget
      simp only [Part.movedBy_iff, heatAsk, chargeAsk, budget] at iff
      exact iff
    have cases := p.settleBudget_cases
    simp only [settled, causes] at cases
    exact cases
  · intro p first cut left g
    have cuts : p.cutBursts = left := p.cutBursts_eq
    rw [Part.recompute, cuts]
    rfl
  · intro p t z rest k enters c zones begun
    refine ⟨rfl, fun stays => ?_, fun enter => ?_⟩
    · rw [Part.enterFrom_cons, if_neg stays]
    · rw [Part.enterFrom_cons, if_pos enter, Part.startBurst_eq]

end Sys2Proof.Machine
end

section
/-! PROOFS. The Session Controller: every step keeps the draw limit held (O6), and the session's timers (O30). -/

namespace Sys2Proof.Machine

/-! ## The draw limit stays held (R82, R18) -/

/-- The draw limit and the target limits are read from settled figures alone. -/
theorem Part.drawHeld_of_settled {p q : Part} (h : q.settled = p.settled) (held : p.drawHeld) : q.drawHeld := by
  have state : q.session.state = p.session.state := congrArg Settled.sessionState h
  have limit : q.session.drawLimit = p.session.drawLimit := congrArg Settled.drawLimit h
  have budget : q.budget = p.budget := congrArg Settled.budget h
  have pack : q.livePack = p.livePack := congrArg Settled.livePack h
  have clamp : q.clamp = p.clamp := congrArg Settled.clamp h
  simpa only [Part.drawHeld, Part.drawLimitNow, Part.converterLimit, Part.inletLimit, state, limit, budget, pack,
    clamp] using held

/-- R17: the value that becomes a target's last forwarded one is the lesser of the order's and the target limit. -/
theorem Part.sendForward_drawHeld {p : Part} (f : Frame) (rest : List Frame) (held : p.drawHeld) :
    (p.sendForward f rest).drawHeld := by
  obtain ⟨limit, converter, inlet⟩ := held
  have clamped {target v : Nat} (forwarded : some (u16 (f.against target).payload 1) = some v) : v ≤ target := by
    cases forwarded
    rw [Frame.against_value]
    exact Nat.min_le_left _ _
  unfold Part.sendForward
  dsimp only
  split
  · exact ⟨limit, fun _ => clamped, inlet⟩
  · split
    · exact ⟨limit, converter, fun _ => clamped⟩
    · exact ⟨limit, converter, inlet⟩

theorem Part.sendAnswer_settled (p : Part) (a : Answer) (rest : List Answer) :
    (p.sendAnswer a rest).settled = p.settled := by
  unfold Part.sendAnswer
  split <;> rfl

/-- R7, R17: of the four sources, the forward FIFO alone moves a last forwarded value. -/
theorem Part.arbitrate_drawHeld {p : Part} (held : p.drawHeld) : p.arbitrate.drawHeld := by
  unfold Part.arbitrate
  split
  case h_1 => exact held
  case h_2 =>
    split
    case h_1 => exact Part.drawHeld_of_settled rfl held
    case h_2 =>
      split
      case h_1 => exact Part.sendForward_drawHeld _ _ held
      case h_2 =>
        split
        case h_1 => exact Part.drawHeld_of_settled (p.sendAnswer_settled _ _) held
        case h_2 =>
          split
          · exact Part.drawHeld_of_settled rfl held
          · exact held

/-- R70, R172: nothing is drawn and nothing has been forwarded. -/
theorem Part.initial_drawHeld (strap : BitVec 2) (portB : Option Frame) : (Part.initial strap portB).drawHeld :=
  ⟨rfl, nofun, nofun⟩

theorem drawHeld_keptByEvents : KeptByEvents Part.drawHeld where
  initial := Part.initial_drawHeld
  finish := Part.finish_drawHeld
  arbitrate _ held := Part.arbitrate_drawHeld held
  congr _ _ same held := Part.drawHeld_of_settled same held

/-- Settles O6: the end of an event sets the draw limit and clamps both targets, a departing order is clamped to the
limit, and nothing else moves what they follow from. -/
theorem drawLimitStaysHeld : Obligations.DrawLimitStaysHeld :=
  fun _ _ held ran => drawHeld_keptByEvents.step held ran

/-! ## The session's timers (R84, R85, R89) -/

/-- A timer that runs is over once its seconds have passed. -/
theorem Part.graceOver_of_elapsed {p : Part} {start : Option Nat} {since seconds : Nat} (runs : start = some since)
    (elapsed : 1000 * seconds ≤ p.now - since) : p.graceOver start seconds = true := by
  rw [runs]
  exact decide_eq_true elapsed

theorem Part.inletGraceDue_of_elapsed {p : Part} {t : Loaded LimitTable} {since : Nat}
    (table : p.session.table = some t) (runs : p.session.inletGrace = some since)
    (elapsed : 1000 * t.table.inletGrace ≤ p.now - since) : p.inletGraceDue = true := by
  rw [Part.inletGraceDue, table]
  exact Part.graceOver_of_elapsed runs elapsed

theorem Part.unknownGraceDue_of_elapsed {p : Part} {t : Loaded InsulationTable} {since : Nat}
    (table : p.monitor.table = some t) (runs : p.session.unknownGrace = some since)
    (elapsed : 1000 * t.table.grace ≤ p.now - since) : p.unknownGraceDue = true := by
  rw [Part.unknownGraceDue, table]
  exact Part.graceOver_of_elapsed runs elapsed

/-- R89: a duration limit in minutes. -/
theorem Part.durationDue_of_elapsed {p : Part} {minutes since : Nat} (limit : p.session.durationLimit = some minutes)
    (runs : p.session.durationStart = some since) (elapsed : 60000 * minutes ≤ p.now - since) :
    p.durationDue = true := by
  rw [Part.durationDue, limit]
  exact Part.graceOver_of_elapsed runs (by omega)

/-- Settles O30: each timer's row is due, and its effect is the termination. -/
theorem sessionTimersTerminate : Obligations.SessionTimersTerminate := by
  refine fun s since => ⟨fun t table runs elapsed => ?_, fun t table runs elapsed => ?_,
    fun minutes limit runs elapsed => ?_⟩
  · exact State.after_when_due (due := Part.inletGraceDue) (fun p => (p.terminate .inletStale).finish)
      (Part.inletGraceDue_of_elapsed table runs elapsed)
  · exact State.after_when_due (due := Part.unknownGraceDue) (fun p => (p.terminate .insulationUnknown).finish)
      (Part.unknownGraceDue_of_elapsed table runs elapsed)
  · exact State.after_when_due (due := Part.durationDue) (fun p => (p.terminate .duration).finish)
      (Part.durationDue_of_elapsed limit runs elapsed)

end Sys2Proof.Machine
end

section
/-! PROOFS. The termination of a session, its tail and its closing (O31). -/

namespace Sys2Proof.Machine

/-! ## Closing (R91, R165) -/

/-- R165: a record closes in the Record Store and the Metering Unit. -/
@[simp] theorem Part.closeRecord_session (p : Part) : p.closeRecord.session = p.session := by
  unfold Part.closeRecord
  split <;> rfl

@[simp] theorem Part.closeRecord_drive (p : Part) : p.closeRecord.drive = p.drive := by
  unfold Part.closeRecord
  split <;> rfl

/-- R91: a closing session takes the context of a CLOSED one. -/
theorem Part.closeSession_session (p : Part) : p.closeSession.session = p.session.closedContext :=
  congrArg Session.closedContext p.closeRecord_session

theorem Part.closeSession_drive (p : Part) : p.closeSession.drive = p.drive := p.closeRecord_drive

/-- R91: the record, the context and the notice of a closing session. -/
theorem Part.closeSession_eq (p : Part) : p.closeSession =
    ({ p.closeRecord with session := p.session.closedContext } : Part).raise
      (.sessionClosed p.session.recordNumber p.session.ordinal p.session.cause) := by
  rw [← p.closeRecord_session]
  unfold Part.closeSession
  rw [← p.closeRecord_session]
  rfl

/-! ## The tail (R91, R92) -/

theorem Part.cutTail_of_not_ending {p : Part} (elsewhere : p.session.state ≠ .ending) : p.cutTail = p :=
  if_neg elsewhere

/-- R92: a tail below its count is cut, and the record says so. -/
theorem Part.cutTail_of_short {p : Part} (ending : p.session.state = .ending)
    (short : p.session.tailTaken < p.session.tailCount) :
    p.cutTail = (p.flagRecord fun f => { f with tailCut := true }).closeSession := by
  rw [Part.cutTail, if_pos ending, if_pos short]

/-- R92: a tail that reached its count is whole. -/
theorem Part.cutTail_of_whole {p : Part} (ending : p.session.state = .ending)
    (whole : p.session.tailCount ≤ p.session.tailTaken) : p.cutTail = p.closeSession := by
  rw [Part.cutTail, if_pos ending, if_neg (Nat.not_lt.mpr whole)]

theorem Part.cutTail_session {p : Part} (ending : p.session.state = .ending) :
    p.cutTail.session = p.session.closedContext := by
  rcases Nat.lt_or_ge p.session.tailTaken p.session.tailCount with short | whole
  · rw [Part.cutTail_of_short ending short, Part.closeSession_session]
    rfl
  · rw [Part.cutTail_of_whole ending whole, Part.closeSession_session]

theorem Part.cutTail_drive (p : Part) : p.cutTail.drive = p.drive := by
  unfold Part.cutTail
  split
  · rw [Part.closeSession_drive]
    split <;> rfl
  · rfl

/-- R92: the tail is taken while the INLET entry is LIVE with its plug PRESENT and the monitor is not TRIPPED. -/
theorem Part.tailImpossible_eq_false_iff (p : Part) : p.tailImpossible = false ↔
    p.monitor.state ≠ .tripped ∧ ∃ r, p.liveInlet = some r ∧ r.plugPresent = true := by
  unfold Part.tailImpossible Part.tripped
  cases p.liveInlet <;> simp

theorem Part.beginTail_of_no_tail {p : Part} (none_ : p.session.tailCount = 0) : p.beginTail = p.closeSession :=
  if_pos none_

theorem Part.beginTail_of_possible {p : Part} (some_ : 0 < p.session.tailCount) (possible : p.tailImpossible = false) :
    p.beginTail = p := by
  rw [Part.beginTail, if_neg (Nat.ne_of_gt some_), possible]
  rfl

theorem Part.beginTail_of_impossible {p : Part} (some_ : 0 < p.session.tailCount)
    (impossible : p.tailImpossible = true) : p.beginTail = p.cutTail := by
  rw [Part.beginTail, if_neg (Nat.ne_of_gt some_), if_pos impossible]

/-- R91, R92: a session that enters ENDING stays there as it is, or closes. -/
theorem Part.beginTail_session {p : Part} (ending : p.session.state = .ending) :
    (0 < p.session.tailCount ∧ p.beginTail.session = p.session) ∨ p.beginTail.session = p.session.closedContext := by
  rcases Nat.eq_zero_or_pos p.session.tailCount with none_ | some_
  · rw [Part.beginTail_of_no_tail none_]
    exact .inr p.closeSession_session
  · cases tail : p.tailImpossible with
    | false =>
      rw [Part.beginTail_of_possible some_ tail]
      exact .inl ⟨some_, rfl⟩
    | true =>
      rw [Part.beginTail_of_impossible some_ tail]
      exact .inr (Part.cutTail_session ending)

theorem Part.beginTail_drive (p : Part) : p.beginTail.drive = p.drive := by
  unfold Part.beginTail
  split
  · exact p.closeSession_drive
  · split
    · exact p.cutTail_drive
    · rfl

/-! ## Termination (R87) -/

/-- R87: a session as it enters ENDING with a cause, before its tail is looked at. -/
def Part.toEnding (p : Part) (c : Cause) : Part :=
  (((p.modSession fun s => s.terminated c).modRecord fun r => { r with cause := some c }).enterSession
    .ending).releaseInlet

theorem Part.terminate_of_running {p : Part} (running : p.session.state.running = true) (c : Cause) :
    p.terminate c = (p.toEnding c).beginTail :=
  if_pos running

theorem Part.terminate_of_not_running {p : Part} (idle : p.session.state.running = false) (c : Cause) :
    p.terminate c = p :=
  if_neg (by simp [idle])

/-- R87: the session's claim is on no branch. -/
theorem Part.toEnding_unclaimed {p : Part} {c : Cause} {b : Branch}
    (claims : ((p.toEnding c).branch b).claimSession = true) : b ≠ .dcInlet ∧ b ≠ .converter := by
  constructor
  · rintro rfl
    cases claims
  · rintro rfl
    cases claims

/-- R79: a session outside CHARGING asks for no charge. -/
theorem Part.chargeAsk_of_not_charging {p : Part} (elsewhere : p.session.state ≠ .charging) : p.chargeAsk = 0 := by
  unfold Part.chargeAsk
  split
  · next charging _ _ => exact absurd charging elsewhere
  · rfl

/-- R82: a session outside PREHEAT and CHARGING draws nothing. -/
theorem Part.drawLimitNow_of_not_drawing {p : Part} (idle : p.session.state.drawing = false) : p.drawLimitNow = 0 :=
  if_neg (by simp [idle])

/-- R87, R91: what stands after a termination, whether the session goes on in ENDING or closes. -/
theorem Part.terminate_leaves {p : Part} (running : p.session.state.running = true) (c : Cause) :
    let q := p.terminate c
    (q.session.state = .ending ∧ q.session.cause = some c ∧ 0 < q.session.tailCount
        ∧ q.session.tailTaken = p.session.tailTaken
      ∨ q.session.state = .closed)
    ∧ (p.session.tailCount = 0 → q.session.state = .closed)
    ∧ (∀ b, (q.branch b).claimSession = true → b ≠ .dcInlet ∧ b ≠ .converter)
    ∧ q.session.causes = ⟨false, false, false, false⟩ ∧ q.session.resume = none
    ∧ q.session.inletGrace = none ∧ q.session.unknownGrace = none ∧ q.session.durationStart = none
    ∧ q.chargeAsk = 0 ∧ q.drawLimitNow = 0 := by
  intro q
  have begun : q = (p.toEnding c).beginTail := Part.terminate_of_running running c
  have unclaimed : ∀ b, (q.branch b).claimSession = true → b ≠ .dcInlet ∧ b ≠ .converter := by
    intro b claims
    rw [Part.branch, begun, Part.beginTail_drive] at claims
    exact Part.toEnding_unclaimed claims
  have session := (p.toEnding c).beginTail_session rfl
  rw [← begun] at session
  have asks {st : SessionState} (state : q.session.state = st) (other : st ≠ .charging) : q.chargeAsk = 0 :=
    Part.chargeAsk_of_not_charging (state ▸ other)
  have draws {st : SessionState} (state : q.session.state = st) (idle : st.drawing = false) : q.drawLimitNow = 0 :=
    Part.drawLimitNow_of_not_drawing (state ▸ idle)
  rcases session with ⟨tail, stays⟩ | closes
  · have state : q.session.state = .ending := congrArg Session.state stays
    have tailed : 0 < p.session.tailCount := tail
    refine ⟨.inl ⟨state, ?_⟩, fun none_ => absurd none_ (Nat.ne_of_gt tailed), unclaimed, ?_⟩
    · rw [stays]
      exact ⟨rfl, tail, rfl⟩
    · rw [stays]
      exact ⟨rfl, rfl, rfl, rfl, rfl, asks state nofun, draws state rfl⟩
  · have state : q.session.state = .closed := congrArg Session.state closes
    refine ⟨.inr state, fun _ => state, unclaimed, ?_⟩
    rw [closes]
    exact ⟨rfl, rfl, rfl, rfl, rfl, asks state nofun, draws state rfl⟩

/-- Settles O31: the termination, the cut of a tail, the taking of an increment, and the closing. -/
theorem terminationEndsSession : Obligations.TerminationEndsSession := by
  refine ⟨fun p c => ⟨fun idle => Part.terminate_of_not_running idle c, fun running => ?_⟩, fun p => ?_,
    fun p n => rfl, fun p => ⟨p.closeSession_eq, ?_⟩⟩
  · intro q s caused told ending tail
    have begun : q = ending.beginTail := Part.terminate_of_running running c
    have possible : ending.tailImpossible = false ↔ tail := ending.tailImpossible_eq_false_iff
    refine ⟨fun none_ => begun.trans (Part.beginTail_of_no_tail none_),
      fun some_ tailed => begun.trans (Part.beginTail_of_possible some_ (possible.mpr tailed)),
      fun some_ cut => begun.trans (Part.beginTail_of_impossible some_ ?_), Part.terminate_leaves running c⟩
    exact eq_true_of_ne_false (mt possible.mp cut)
  · exact ⟨Part.cutTail_of_not_ending, Part.cutTail_of_short, Part.cutTail_of_whole⟩
  · rw [Part.closeSession_session]
    exact ⟨rfl, rfl, rfl, rfl⟩

end Sys2Proof.Machine
end

section
/-! PROOFS. The suspension causes, and PAUSE_SESSION, RESUME_SESSION and ABORT_SESSION (O53). -/

namespace Sys2Proof.Machine

/-! ## The set of suspension causes (R83) -/

theorem SuspensionCauses.has_put (causes : SuspensionCauses) (c d : Suspension) (on : Bool) :
    (causes.put c on).has d = if d = c then on else causes.has d := by
  cases c <;> cases d <;> rfl

theorem SuspensionCauses.isEmpty_iff_has (causes : SuspensionCauses) :
    causes.isEmpty = true ↔ ∀ d, causes.has d = false := by
  constructor
  · intro empty d
    rw [SuspensionCauses.isEmpty_iff] at empty
    subst empty
    cases d <;> rfl
  · intro none_
    have pause : causes.pause = false := none_ .pause
    have locate : causes.locate = false := none_ .locate
    have inletStale : causes.inletStale = false := none_ .inletStale
    have unknown : causes.insulationUnknown = false := none_ .insulationUnknown
    simp [SuspensionCauses.isEmpty, pause, locate, inletStale, unknown]

/-- R83: the states that a first suspension cause suspends. -/
theorem SessionState.suspendable_iff (st : SessionState) :
    st.suspendable = true ↔ st = .connecting ∨ st = .preheat ∨ st = .charging := by
  cases st <;> simp [SessionState.suspendable]

/-! ## A cause added (R83) -/

theorem Part.addCause_suspends {p : Part} (c : Suspension)
    (goes : p.session.state = .connecting ∨ p.session.state = .preheat ∨ p.session.state = .charging) :
    let causes := p.session.causes.put c true
    p.addCause c = ({ p with
      session := { p.session with state := .suspended, causes := causes, resume := some p.session.state }
      store := { p.store with opened := p.store.opened.map fun r =>
        { r with suspendCount := min (r.suspendCount + 1) 65535 } } } : Part).raise
      (.sessionState p.session.recordNumber p.session.state .suspended causes none) :=
  if_pos ((SessionState.suspendable_iff _).mpr goes)

/-- R83: a further cause joins the set, and PAUSE joins it in PLUG_WAIT. -/
theorem Part.addCause_joins {p : Part} {c : Suspension}
    (waits : p.session.state = .suspended ∨ (p.session.state = .plugWait ∧ c = .pause)) :
    p.addCause c = { p with session := { p.session with causes := p.session.causes.put c true } } := by
  have rests : ¬ p.session.state.suspendable = true := by
    rw [SessionState.suspendable_iff]
    rcases waits with suspended | ⟨waiting, -⟩
    · simp [suspended]
    · simp [waiting]
  have joins : (decide (p.session.state = .suspended)
      || (decide (p.session.state = .plugWait) && decide (c = .pause))) = true := by simpa using waits
  unfold Part.addCause
  rw [if_neg rests, if_pos joins]
  rfl

theorem Part.addCause_of_no_effect {p : Part} {c : Suspension}
    (other : (p.session.state = .plugWait ∧ c ≠ .pause) ∨ p.session.state = .ending ∨ p.session.state = .closed) :
    p.addCause c = p := by
  unfold Part.addCause
  rcases other with ⟨waiting, cause⟩ | ending | closed
  · simp [waiting, cause, SessionState.suspendable]
  · simp [ending, SessionState.suspendable]
  · simp [closed, SessionState.suspendable]

/-! ## The tests of a resumed session (R78, R81, R89) -/

/-- R78: the session's inlet branch is to be CLOSED, is commanded so with no change pending, and is fed back CLOSED. -/
theorem Part.inletSettled_iff (p : Part) : p.inletSettled = true ↔
    ∃ k : ChargeKind, p.session.kindActual = some k ∧ p.shouldClose k.branch = true
      ∧ (p.branch k.branch).commanded = true ∧ (p.branch k.branch).change = none
      ∧ (p.branch k.branch).feedback = some true := by
  unfold Part.inletSettled
  cases p.session.kindActual with
  | none => simp
  | some k => simp [and_assoc]

theorem Part.resumeTests_of_connecting {p : Part} (state : p.session.state = .connecting) :
    p.resumeTests = if p.inletSettled then p.enterPowered else p := by
  rw [Part.resumeTests, state]

theorem Part.resumeTests_of_preheat {p : Part} (state : p.session.state = .preheat) :
    p.resumeTests = (if 0 < p.session.bandPower then p.enterSession .charging else p).checkFull := by
  rw [Part.resumeTests, Part.moveByBand, state]

theorem Part.resumeTests_of_charging {p : Part} (state : p.session.state = .charging) :
    p.resumeTests = (if p.session.bandPower = 0 then p.enterSession .preheat else p).checkFull := by
  rw [Part.resumeTests, Part.moveByBand, state]

/-! ## A cause removed (R83) -/

/-- Two choices whose conditions agree and that differ, if at all, in what they fall through to. -/
theorem ite_eq_of_iff {α : Type} {b c : Prop} [Decidable b] [Decidable c] {x y z : α} (same : b ↔ c) (behind : y = z) :
    (if b then x else y) = if c then x else z :=
  ite_congr (propext same) (fun _ => rfl) fun _ => behind

theorem Part.removeCause_of_absent {p : Part} {c : Suspension} (absent : p.session.causes.has c = false) :
    p.removeCause c = p :=
  if_neg (by simp [absent])

/-- R83: a SUSPENDED session returns to its resume state and meets that state's tests. -/
theorem Part.resumeSession_eq {p : Part} {st : SessionState} (suspended : p.session.state = .suspended)
    (resume : p.session.resume = some st) (notEnding : st ≠ .ending) :
    p.resumeSession = (({ p with session := { p.session with state := st, resume := none } } : Part).raise
      (.sessionState p.session.recordNumber .suspended st p.session.causes none)).resumeTests := by
  unfold Part.resumeSession
  rw [resume, Option.getD_some, ← suspended]
  dsimp only
  rw [Part.enterSession_eq _ _ notEnding]
  rfl

/-- R83: a cause leaves the set, and the last one resumes a SUSPENDED session. -/
theorem Part.removeCause_of_present {p : Part} {c : Suspension} (held : p.session.causes.has c = true) :
    let left : Part := { p with session := { p.session with causes := p.session.causes.put c false } }
    p.removeCause c =
      if p.session.state = .suspended ∧ (p.session.causes.put c false).isEmpty = true then left.resumeSession
      else left := by
  intro left
  unfold Part.removeCause
  rw [if_pos held]
  exact ite_eq_of_iff (by rw [Bool.and_eq_true, decide_eq_true_eq]; rfl) rfl

theorem Part.removeCause_of_not_last {p : Part} {c : Suspension} (held : p.session.causes.has c = true)
    (goesOn : ¬ (p.session.state = .suspended ∧ ∀ d, (p.session.causes.put c false).has d = false)) :
    p.removeCause c = { p with session := { p.session with causes := p.session.causes.put c false } } := by
  rw [← SuspensionCauses.isEmpty_iff_has] at goesOn
  exact (Part.removeCause_of_present held).trans (if_neg goesOn)

theorem Part.removeCause_of_last {p : Part} {c : Suspension} {st : SessionState}
    (held : p.session.causes.has c = true)
    (last : p.session.state = .suspended ∧ ∀ d, (p.session.causes.put c false).has d = false)
    (resume : p.session.resume = some st) (notEnding : st ≠ .ending) :
    let causes := p.session.causes.put c false
    p.removeCause c = (({ p with session := { p.session with
      state := st, causes := causes, resume := none } } : Part).raise
        (.sessionState p.session.recordNumber .suspended st causes none)).resumeTests := by
  intro causes
  rw [← SuspensionCauses.isEmpty_iff_has] at last
  exact ((Part.removeCause_of_present held).trans (if_pos last)).trans
    (Part.resumeSession_eq last.1 resume notEnding)

/-! ## The commands (R93 to R95) -/

theorem Part.commands_of_outer {p q : Part} (h : q.outer = p.outer) : q.mgmt.commands = p.mgmt.commands :=
  congrArg (fun o => o.core.commands) h

/-- A command whose work ends an event after an operation that touches no queue. -/
theorem State.take_finishes {s : State} {q : Part} {name : CommandName} {c : Frame} {rest : List Frame}
    (named : name ≠ .unknown) (h : s.part.Admits name c rest) {work : Part → Frame → Reply} {status : Status}
    {fields : List Byte} (answers : work s.part c = .answer q.finish status fields)
    (outer : q.outer = s.part.outer) : s.take name work = s.answers q.finish c rest status fields :=
  State.take_answers named h answers (q.finish_commands.trans (Part.commands_of_outer outer))

/-- R93, R94: a command that a CLOSED session refuses, and one in ENDING, and whose work otherwise ends an event. -/
theorem State.take_of_session {s : State} {q : Part} {name : CommandName} {c : Frame} {rest : List Frame}
    (named : name ≠ .unknown) (h : s.part.Admits name c rest) {work : Part → Frame → Reply}
    {fields : List Byte} (outer : q.outer = s.part.outer)
    (works : work s.part c = match s.part.session.state with
      | .closed => s.part.refuse .noSession
      | .ending => s.part.refuse .wrongState
      | _ => .answer q.finish .ok fields) :
    s.take name work =
      if s.part.session.state = .closed then s.answers s.part c rest .noSession []
      else if s.part.session.state = .ending then s.answers s.part c rest .wrongState []
      else s.answers q.finish c rest .ok fields := by
  split at works
  · next closed =>
    rw [if_pos closed]
    exact State.take_refuses named h works
  · next ending =>
    rw [ending]
    exact State.take_refuses named h works
  · next notClosed notEnding =>
    rw [if_neg notClosed, if_neg notEnding]
    exact State.take_finishes named h works outer

theorem exec_abortSession {s : State} {c : Frame} {rest : List Frame} (admits : s.part.Admits .abortSession c rest) :
    let q := (s.part.terminate .abort).finish
    exec .abortSession s =
      if s.part.session.state = .closed then s.answers s.part c rest .noSession []
      else s.answers q c rest .ok [causeCode q.session.cause] := by
  intro q
  have works : abortWork s.part c = match s.part.session.state with
      | .closed => s.part.refuse .noSession
      | _ => .answer q .ok [causeCode q.session.cause] := rfl
  split at works
  · next closed =>
    rw [if_pos closed]
    exact State.take_refuses (name := .abortSession) nofun admits works
  · next notClosed =>
    rw [if_neg notClosed]
    exact State.take_finishes (name := .abortSession) nofun admits works (s.part.terminate_outer .abort)

/-- Settles O53: the three commands, the set of causes, a cause added, and a cause removed. -/
theorem pauseResumeAbort : Obligations.PauseResumeAbort := by
  refine ⟨fun c rest s => ⟨fun admits => ?_, fun admits => ?_, exec_abortSession⟩, SuspensionCauses.has_put,
    fun p c => ⟨Part.addCause_suspends c, Part.addCause_joins, Part.addCause_of_no_effect⟩,
    fun p c => ⟨Part.removeCause_of_absent, Part.removeCause_of_not_last, ?_⟩⟩
  · exact State.take_of_session (name := .pauseSession) nofun admits (s.part.addCause_outer .pause) rfl
  · exact State.take_of_session (name := .resumeSession) nofun admits (s.part.removeCause_outer .pause) rfl
  · intro st held last resume notEnding q closedUnder
    have tested : p.removeCause c = q.resumeTests := Part.removeCause_of_last held last resume notEnding
    have settled : q.inletSettled = true ↔ ∃ k, closedUnder k := q.inletSettled_iff
    refine ⟨fun connecting inlet => ?_, fun connecting unsettled => ?_, fun preheat => ?_, fun charging => ?_⟩
    · rw [tested, Part.resumeTests_of_connecting (p := q) connecting, if_pos (settled.mpr inlet)]
      rfl
    · rw [tested, Part.resumeTests_of_connecting (p := q) connecting, if_neg (mt settled.mp unsettled)]
    · exact tested.trans (Part.resumeTests_of_preheat (p := q) preheat)
    · exact tested.trans (Part.resumeTests_of_charging (p := q) charging)

end Sys2Proof.Machine
end

section
/-! PROOFS. OPEN_SESSION (O52) and SPLIT_SESSION (O54): what each command answers, and the record and session that stand
after it. -/

namespace Sys2Proof.Machine

/-! ## The outcome of a taking, by its reply (R177, R179) -/

/-- The outcome of a row that takes the head command `c` and replies to it. -/
def State.replied (s : State) (c : Frame) (r : Reply) : Host.Outcome State Fault Refusal :=
  .next { s with part := (respond c s.part r).arbitrate }

theorem State.take_replied {s : State} {name : CommandName} {c : Frame} {rest : List Frame} (named : name ≠ .unknown)
    (h : s.part.Admits name c rest) (work : Part → Frame → Reply) :
    s.take name work = s.replied c (work s.part c) := by
  rw [State.replied, ← s.part.takeAs_of_admits named h]
  rfl

theorem State.replied_answer {s : State} {after : Part} {name : CommandName} {c : Frame} {rest : List Frame}
    (h : s.part.Admits name c rest) (queued : after.mgmt.commands = s.part.mgmt.commands) (status : Status)
    (fields : List Byte) : s.replied c (.answer after status fields) = s.answers after c rest status fields := by
  rw [State.replied, respond_answer (queued.trans h.queued)]
  rfl

theorem State.replied_refuse {s : State} {name : CommandName} {c : Frame} {rest : List Frame}
    (h : s.part.Admits name c rest) (status : Status) :
    s.replied c (s.part.refuse status) = s.answers s.part c rest status [] :=
  State.replied_answer h rfl status []

/-! ## A record opens (R161, R162) -/

@[simp] theorem Part.storeLowCheck_session (p : Part) (n : Nat) : (p.storeLowCheck n).session = p.session := by
  unfold Part.storeLowCheck
  split <;> rfl

@[simp] theorem Part.storeLowCheck_store (p : Part) (n : Nat) : (p.storeLowCheck n).store = p.store := by
  unfold Part.storeLowCheck
  split <;> rfl

@[simp] theorem Part.openRecord_session (p : Part) (ordinal : Nat) (tags : Tags) (kind : Kind) (continuation : Bool)
    (n : Nat) : (p.openRecord ordinal tags kind continuation n).session = p.session :=
  Part.storeLowCheck_session _ _

/-- R161: a reservation takes the head and the next number. -/
theorem Part.openRecord_store (p : Part) (ordinal : Nat) (tags : Tags) (kind : Kind) (continuation : Bool) (n : Nat) :
    (p.openRecord ordinal tags kind continuation n).store =
      { p.store with
        opened := some (p.freshRecord ordinal tags kind continuation n)
        head := (p.store.head + 288) % p.store.areaSize
        nextNumber := if p.store.nextNumber = 65535 then 1 else p.store.nextNumber + 1 } :=
  Part.storeLowCheck_store _ _

/-! ## OPEN_SESSION (R75) -/

theorem Part.openSession_session (p : Part) (f : OpenFields) (k : Kind) : (p.openSession f k).session =
    { p.session.openedWith f k p.store.nextNumber p.now with state := .plugWait } := by
  have kept : (p.openRecord p.store.nextNumber f.tags k false 0).session = p.session := Part.openRecord_session ..
  rw [← kept]
  rfl

theorem Part.enterSession_store (p : Part) (st : SessionState) : (p.enterSession st).store = p.store := rfl

theorem Part.openSession_store (p : Part) (f : OpenFields) (k : Kind) :
    (p.openSession f k).store = (p.openRecord p.store.nextNumber f.tags k false 0).store :=
  (Part.enterSession_store _ _).trans (Part.modSession_store _ _)

theorem Part.openSession_outer (p : Part) (f : OpenFields) (k : Kind) : (p.openSession f k).outer = p.outer := by
  simp [Part.openSession]

/-- R75: a code that names a kind. -/
theorem Kind.ofCode_eq (n : Nat) :
    Kind.ofCode n = if n = 0 then some .ac else if n = 1 then some .dc else if n = 2 then some .any else none := by
  unfold Kind.ofCode
  split
  · rfl
  · rfl
  · rfl
  · next ac dc any => rw [if_neg ac, if_neg dc, if_neg any]

/-- R75: the kind expected whose every branch is QUARANTINED. -/
theorem Part.openQuarantined_iff (p : Part) (code : Nat) : p.openQuarantined code = true ↔
    (Kind.ofCode code = some .ac ∧ (p.branch .converter).quarantine = true)
      ∨ (Kind.ofCode code = some .dc ∧ (p.branch .dcInlet).quarantine = true)
      ∨ (Kind.ofCode code = some .any ∧ (p.branch .converter).quarantine = true
        ∧ (p.branch .dcInlet).quarantine = true) := by
  unfold Part.openQuarantined
  cases Kind.ofCode code with
  | none => simp
  | some k => cases k <;> simp [Part.noFreeInlet]

/-- R75: the ranges of the fields. -/
theorem OpenFields.inRange_iff (f : OpenFields) : f.inRange = true ↔
    f.target ≠ some 0 ∧ f.duration ≠ some 0 ∧ (f.stopSoc.all fun x => decide (50 ≤ x ∧ x ≤ 100)) = true
      ∧ f.tailCount ≤ 7 := by
  simp [OpenFields.inRange, Machine.inRange, and_assoc]

theorem Part.not_inRun_iff (p : Part) : (!p.inRun) = true ↔ p.mgmt.partState ≠ .run := by
  simp [Part.inRun]

theorem Part.sessionOpen_iff (p : Part) : p.sessionOpen = true ↔ p.session.state ≠ .closed := by
  simp [Part.sessionOpen]

theorem Part.tripped_iff (p : Part) : p.tripped = true ↔ p.monitor.state = .tripped := by
  simp [Part.tripped]

/-- R75: the outcome of OPEN_SESSION, its refusals in the order of the table. -/
theorem exec_openSession {s : State} {c : Frame} {rest : List Frame} {f : OpenFields} {kind : Option Kind}
    (admits : s.part.Admits .openSession c rest) :
    let p := s.part
    let ac := (p.branch .converter).quarantine = true
    let dc := (p.branch .dcInlet).quarantine = true
    openFieldsOf c.payload = f → Kind.ofCode f.kindCode = kind → exec .openSession s =
      if p.mgmt.partState ≠ .run then s.answers p c rest .wrongState []
      else if p.session.state ≠ .closed then s.answers p c rest .sessionBusy []
      else if p.monitor.state = .tripped then s.answers p c rest .tripped []
      else if p.monitor.state = .faulty then s.answers p c rest .monitorFault []
      else if (kind = some .ac ∧ ac) ∨ (kind = some .dc ∧ dc) ∨ (kind = some .any ∧ ac ∧ dc) then
        s.answers p c rest .quarantined []
      else if p.store.borrow = true then s.answers p c rest .stagingActive []
      else if p.store.free < 288 then s.answers p c rest .storeFull []
      else
        match kind with
        | none => s.answers p c rest .range []
        | some k =>
          if f.target ≠ some 0 ∧ f.duration ≠ some 0 ∧ (f.stopSoc.all fun x => decide (50 ≤ x ∧ x ≤ 100)) = true
            ∧ f.tailCount ≤ 7
          then s.answers (p.openSession f k).finish c rest .ok (beBytes 2 p.store.nextNumber)
          else s.answers p c rest .range [] := by
  intro p ac dc read coded
  have replied : exec .openSession s = s.replied c (openSessionWork p c) :=
    State.take_replied (name := .openSession) nofun admits openSessionWork
  have opens (k : Kind) : s.replied c (.answer (p.openSession f k).finish .ok (beBytes 2 p.store.nextNumber)) =
      s.answers (p.openSession f k).finish c rest .ok (beBytes 2 p.store.nextNumber) :=
    State.replied_answer admits
      ((Part.finish_commands _).trans (Part.commands_of_outer (p.openSession_outer f k))) _ _
  have refuses (status : Status) : s.replied c (p.refuse status) = s.answers p c rest status [] :=
    State.replied_refuse admits status
  have quarantined := p.openQuarantined_iff f.kindCode
  rw [coded] at quarantined
  rw [replied]
  unfold openSessionWork
  simp only [apply_ite (s.replied c), refuses, read, coded]
  refine ite_eq_of_iff p.not_inRun_iff <| ite_eq_of_iff p.sessionOpen_iff <| ite_eq_of_iff p.tripped_iff <|
    ite_eq_of_iff Iff.rfl <| ite_eq_of_iff quarantined <| ite_eq_of_iff Iff.rfl <| ite_eq_of_iff Iff.rfl ?_
  cases kind with
  | none => exact refuses .range
  | some k =>
    dsimp only
    by_cases ranged : f.inRange = true
    · rw [if_neg (by simp [ranged]), if_pos (f.inRange_iff.mp ranged)]
      exact opens k
    · rw [if_pos (by simp [ranged]), if_neg (mt f.inRange_iff.mpr ranged)]
      exact refuses .range

/-- Settles O52: the outcome, and the session and record that an opening leaves. -/
theorem openSessionReservesRecord : Obligations.OpenSessionReservesRecord := by
  intro c rest s admits p b present f kind ac dc gone ranged
  refine ⟨exec_openSession admits rfl (Kind.ofCode_eq _), fun k => ?_⟩
  · intro q
    have session : q.session = { p.session.openedWith f k p.store.nextNumber p.now with state := .plugWait } :=
      p.openSession_session f k
    have store := (p.openSession_store f k).trans (Part.openRecord_store ..)
    rw [session, store]
    exact ⟨rfl, rfl, rfl, rfl, rfl, rfl, rfl, rfl, rfl, rfl, rfl, rfl, ⟨_, rfl, rfl, rfl, rfl, rfl, rfl⟩, rfl, rfl, rfl⟩

/-! ## SPLIT_SESSION (R96, R166) -/

theorem Part.modRecord_opened {p : Part} {r : Record} (g : Record → Record) (opened : p.store.opened = some r) :
    (p.modRecord g).store.opened = some (g r) :=
  congrArg (Option.map g) opened

/-- R165: the OPEN record joins the CLOSED ones, and the head moves to its trimmed end. -/
theorem Part.closeRecord_store {p : Part} {r : Record} (opened : p.store.opened = some r) :
    p.closeRecord.store = { p.store with
      closed := p.store.closed ++ [p.finalRecord r]
      opened := none
      head := ((p.finalRecord r).start + (p.finalRecord r).size) % p.store.areaSize } := by
  unfold Part.closeRecord
  rw [opened]
  rfl

/-- R54, R165: closing writes the costs and the close stamp. -/
theorem Part.finalRecord_keeps (p : Part) (r : Record) :
    (p.finalRecord r).number = r.number ∧ (p.finalRecord r).cause = r.cause
      ∧ (p.finalRecord r).closeStamp = p.meter.clock ∧ (p.finalRecord r).energy = r.energy := by
  unfold Part.finalRecord
  cases p.meter.segment <;> exact ⟨rfl, rfl, rfl, rfl⟩

/-- R166: the first half of a split: the OPEN record closes with cause SPLIT, and the closing is told. -/
def Part.splitOff (p : Part) : Part :=
  ((p.modRecord fun r => { r with cause := some .split }).closeRecord).raise
    (.sessionClosed p.session.recordNumber p.session.ordinal (some .split))

theorem Part.split_eq (p : Part) (tags : Tags) : p.split tags =
    (p.splitOff.openRecord p.session.ordinal tags p.splitKind true
      (if p.session.state = .suspended then 1 else 0)).modSession
      fun s => { s with recordNumber := p.store.nextNumber, tags := tags } := rfl

theorem Part.splitOff_session (p : Part) : p.splitOff.session = p.session :=
  Part.closeRecord_session _

theorem Part.splitOff_store {p : Part} {r : Record} (opened : p.store.opened = some r) :
    ∃ old head, p.splitOff.store = { p.store with closed := p.store.closed ++ [old], opened := none, head := head }
      ∧ old.number = r.number ∧ old.cause = some .split ∧ old.closeStamp = p.meter.clock ∧ old.energy = r.energy :=
  ⟨_, _, Part.closeRecord_store (Part.modRecord_opened _ opened), Part.finalRecord_keeps _ _⟩

/-- R96: of the session only the record number and the tags change. -/
theorem Part.split_session (p : Part) (tags : Tags) :
    (p.split tags).session = { p.session with recordNumber := p.store.nextNumber, tags := tags } := by
  rw [Part.split_eq, Part.modSession_session, Part.openRecord_session, Part.splitOff_session]

theorem Part.split_outer (p : Part) (tags : Tags) : (p.split tags).outer = p.outer := by
  simp [Part.split]

/-- R96: the outcome of SPLIT_SESSION. -/
theorem exec_splitSession {s : State} {c : Frame} {rest : List Frame} (admits : s.part.Admits .splitSession c rest) :
    let p := s.part
    let tags := tagsAt c.payload 3
    exec .splitSession s =
      if p.session.state = .closed then s.answers p c rest .noSession []
      else if p.session.state = .plugWait ∨ p.session.state = .ending then s.answers p c rest .wrongState []
      else if p.store.free < p.splitNeeds then
        s.answers p c rest .storeFull (beBytes 2 p.store.free ++ beBytes 2 p.splitNeeds)
      else s.answers (p.split tags) c rest .ok
        (beBytes 2 p.session.recordNumber ++ beBytes 2 p.store.nextNumber) := by
  intro p tags
  have replied : exec .splitSession s = s.replied c (splitWork p c) :=
    State.take_replied (name := .splitSession) nofun admits splitWork
  rw [replied]
  unfold splitWork
  split
  · next closed =>
    rw [if_pos closed]
    exact State.replied_refuse admits .noSession
  · next waits =>
    rw [waits]
    exact State.replied_refuse admits .wrongState
  · next ending =>
    rw [ending]
    exact State.replied_refuse admits .wrongState
  · next notClosed notWaiting notEnding =>
    rw [if_neg notClosed, if_neg (not_or.mpr ⟨notWaiting, notEnding⟩), apply_ite (s.replied c),
      State.replied_answer admits rfl, State.replied_answer admits (Part.commands_of_outer (p.split_outer tags))]

/-- Settles O54: the outcome, and the session and the two records that a split leaves. -/
theorem splitContinuesUnderNewRecord : Obligations.SplitContinuesUnderNewRecord := by
  intro c rest s admits p tags needs
  refine ⟨exec_splitSession admits, fun r opened => ?_⟩
  intro q
  obtain ⟨old, head, off, closed⟩ := Part.splitOff_store opened
  have session : q.session = { p.session with recordNumber := p.store.nextNumber, tags := tags } :=
    p.split_session tags
  have store : q.store = _ := (congrArg Part.store (p.split_eq tags)).trans (Part.openRecord_store ..)
  rw [off] at store
  refine ⟨session, ⟨old, ?_, closed⟩, ⟨_, congrArg RecordStore.opened store, ?_⟩⟩
  · rw [store]
  · rw [Part.freshRecord, off]
    exact ⟨rfl, rfl, rfl, rfl, rfl⟩

end Sys2Proof.Machine
end

section
/-! PROOFS. What happens in time to a zone of the pack: a heat change that fails (O28), a burst that expires (O32) or
ends (O33), and a rest that is over (O34). -/

namespace Sys2Proof.Machine

/-! ## A failed heat change (R113) -/

/-- Settles O28: the expiry is due, and its effect is the failure of the change. -/
theorem heatPendingExpirySetsMismatch : Obligations.HeatPendingExpirySetsMismatch := by
  intro z w s p c pending due
  exact State.after_when_due (due := fun p => p.deadlinePassed (p.zone z).change) (fun p => p.failHeatChange z)
    (Part.deadlinePassed_of_due pending due)

/-! ## The end time of a timed state (R106, R111) -/

theorem Part.endReached_of_elapsed {p : Part} {z : Zone} {st : ZoneState} {at_ : Nat} (state : (p.zone z).state = st)
    (ends : (p.zone z).endTime = some at_) (elapsed : at_ ≤ p.now) : p.endReached z st = true := by
  unfold Part.endReached
  rw [state, ends]
  simp [elapsed]

/-! ## A burst that expires (R106) -/

/-- R106: the burst limit leaves a burst its turn. -/
theorem Part.turnAllows_iff (p : Part) (t : HeatTable) : p.turnAllows t = true ↔
    t.mode = .all ∨ p.heat.waitList = [] ∨ p.heat.burstOrder.length < (if t.mode = .pair then 2 else 1) := by
  unfold Part.turnAllows Part.burstCount
  rw [Bool.or_eq_true, Bool.or_eq_true, beq_iff_eq, List.isEmpty_iff, ConcurrencyMode.allows_iff]
  exact ⟨fun turn => turn.elim (·.imp_right .inl) (·.imp_right .inr),
    fun turn => turn.elim (fun all => .inl (.inl all)) fun turn => turn.elim (fun free => .inl (.inr free))
      fun room => .inr (.inr room)⟩

/-- R106: the conditions of an extension. -/
theorem Part.extends_iff (p : Part) (t : HeatTable) (z : Zone) : p.extends t z = true ↔
    (p.zone z).demand = true ∧ z ∈ p.budget.granted ∧ (p.zone z).extensions < (t.zones.get z).maxExtensions
      ∧ (t.mode = .all ∨ p.heat.waitList = []
        ∨ p.heat.burstOrder.length < (if t.mode = .pair then 2 else 1)) := by
  unfold Part.extends
  rw [Bool.and_eq_true, Bool.and_eq_true, Bool.and_eq_true, List.contains_iff_mem, decide_eq_true_iff,
    Part.turnAllows_iff, and_assoc, and_assoc]

theorem Part.burstExpires_of_extends {p : Part} {t : Loaded HeatTable} {z : Zone} (table : p.heat.table = some t)
    (goesOn : p.extends t.table z = true) : p.burstExpires z = p.extendBurst t.table z := by
  unfold Part.burstExpires
  rw [table]
  exact if_pos goesOn

/-- R106: with no HEAT table in force no burst goes on. -/
theorem Part.burstExpires_of_ends {p : Part} {z : Zone}
    (stops : ∀ t, p.heat.table = some t → ¬ p.extends t.table z = true) :
    p.burstExpires z = p.endBurst .expired z := by
  unfold Part.burstExpires
  split
  · rfl
  · next t table => exact if_neg (stops t table)

/-- Settles O32: the expiry is due, and extends or ends the burst as the conditions of R106 say. -/
theorem burstExpiryExtendsOrEnds : Obligations.BurstExpiryExtendsOrEnds := by
  intro z at_ s p c goesOn burst ends elapsed
  have expires : exec (.burstExpiry z) s = s.leaves (p.burstExpires z).finish :=
    State.after_when_due (due := fun p => p.endReached z .burst) (fun p => (p.burstExpires z).finish)
      (Part.endReached_of_elapsed burst ends elapsed)
  rw [expires]
  refine ⟨fun t table holds => ?_, fun stops => ?_⟩
  · rw [Part.burstExpires_of_extends table ((p.extends_iff t.table z).mpr holds)]
    rfl
  · rw [Part.burstExpires_of_ends fun t table => mt (p.extends_iff t.table z).mp (stops t table)]

/-! ## A burst that ends (R107) -/

/-- R107: the context in which an ending leaves its zone. -/
def Part.endedContext (p : Part) (e : Ending) (z : Zone) : ZoneContext :=
  { p.zone z with
    state := p.stateAfter z e
    elementPower := none
    extensions := 0
    endTime := if p.stateAfter z e = .rest then some (p.now + p.restMs z) else none
    lastEnding := some e
    heatOn := false
    change := some ⟨false, p.now + 300⟩ }

theorem Part.endBurst_of_idle {p : Part} {z : Zone} (idle : (p.zone z).state ≠ .burst) (e : Ending) :
    p.endBurst e z = p :=
  if_neg idle

/-- R107: of the Heating Controller's state an ending changes the zone's context and the burst order. -/
theorem Part.endBurst_heat {p : Part} {z : Zone} (burst : (p.zone z).state = .burst) (e : Ending) :
    (p.endBurst e z).heat = { p.heat with
      zones := p.heat.zones.set z (p.endedContext e z), burstOrder := p.heat.burstOrder.erase z } := by
  unfold Part.endBurst
  rw [if_pos burst, Part.raise_heat, Part.queueHeatSet, Part.queueDrive_heat]
  rfl

theorem Part.endBurst_zone {p : Part} {z : Zone} (burst : (p.zone z).state = .burst) (e : Ending) :
    (p.endBurst e z).zone z = p.endedContext e z := by
  rw [Part.zone, Part.endBurst_heat burst, PerZone.get_set_same]

theorem Ending.rests_iff (e : Ending) :
    e.rests = true ↔ e = .expired ∨ e = .hot ∨ e = .cut ∨ e = .stopped ∨ e = .stale := by
  cases e <;> simp [Ending.rests]

theorem Part.stateAfter_of_quarantine {p : Part} {z : Zone} (flagged : (p.branch z.branch).quarantine = true)
    (e : Ending) : p.stateAfter z e = .quarantined :=
  if_pos flagged

theorem Part.stateAfter_of_free {p : Part} {z : Zone} (free : (p.branch z.branch).quarantine = false) (e : Ending) :
    p.stateAfter z e = if e.rests = true then .rest else .off :=
  if_neg (Bool.eq_false_iff.mp free)

theorem Part.restMs_of_table {p : Part} {t : Loaded HeatTable} (table : p.heat.table = some t) (z : Zone) :
    p.restMs z = 1000 * (t.table.zones.get z).rest := by
  rw [Part.restMs, Part.zoneRecord, table]
  rfl

/-- An ending that leads to another state than REST sets no end time. -/
theorem Part.endedContext_of_not_rest {p : Part} {e : Ending} {z : Zone} {st : ZoneState}
    (after : p.stateAfter z e = st) (other : st ≠ .rest) :
    (p.endedContext e z).state = st ∧ (p.endedContext e z).endTime = none :=
  ⟨after, if_neg (after ▸ other)⟩

/-- R107: a zone that rests does so for the rest of its record in the HEAT table in force. -/
theorem Part.endedContext_of_rest {p : Part} {e : Ending} {z : Zone} (after : p.stateAfter z e = .rest) :
    (p.endedContext e z).state = .rest ∧ ∀ t : Loaded HeatTable, p.heat.table = some t →
      (p.endedContext e z).endTime = some (p.now + 1000 * (t.table.zones.get z).rest) := by
  refine ⟨after, fun t table => ?_⟩
  rw [← Part.restMs_of_table table z]
  exact if_pos after

/-- Settles O33: the burst order and the zone's context after an ending, the latter by the state it leads to. -/
theorem burstEndingLeavesZone : Obligations.BurstEndingLeavesZone := by
  intro p e z q rests
  refine ⟨fun idle => Part.endBurst_of_idle idle e, fun burst => ?_⟩
  have order : q.heat.burstOrder = p.heat.burstOrder.erase z := by rw [Part.endBurst_heat burst]
  have ended : q.zone z = p.endedContext e z := Part.endBurst_zone burst e
  rw [ended]
  refine ⟨order, fun y other => p.endBurst_other e other, rfl, rfl, rfl, rfl, rfl, rfl, fun flagged => ?_,
    fun free resting => ?_, fun free leaving => ?_⟩
  · exact Part.endedContext_of_not_rest (Part.stateAfter_of_quarantine flagged e) (by decide)
  · refine Part.endedContext_of_rest ?_
    rw [Part.stateAfter_of_free free, if_pos (e.rests_iff.mpr resting)]
  · refine Part.endedContext_of_not_rest ?_ (by decide)
    rw [Part.stateAfter_of_free free, if_neg (mt e.rests_iff.mp leaving)]

/-! ## A rest that is over (R111) -/

/-- Settles O34: the expiry is due, and the demand flag decides between WAITING and OFF. -/
theorem restExpiryWaitsOrRests : Obligations.RestExpiryWaitsOrRests := by
  intro z at_ s p c rest ends elapsed
  have expires : exec (.restExpiry z) s = s.leaves (p.restExpires z).finish :=
    State.after_when_due (due := fun p => p.endReached z .rest) (fun p => (p.restExpires z).finish)
      (Part.endReached_of_elapsed rest ends elapsed)
  rw [expires, Part.restExpires, apply_ite Part.finish]
  rfl

end Sys2Proof.Machine
end

section
/-! PROOFS. The commands of heating: HEAT_NOW and HEAT_STOP (O55), SET_DEPARTURE and CANCEL_DEPARTURE (O56). -/

namespace Sys2Proof.Machine

/-! ## Figures that the commands read -/

/-- R114, R120: a target is out of range when it is present and outside 0..40. -/
theorem not_targetOk_iff (t : Option Int) : (!targetOk t) = true ↔ ∃ x, t = some x ∧ ¬ (0 ≤ x ∧ x ≤ 40) := by
  cases t with
  | none => simp [targetOk]
  | some x =>
    simp only [targetOk, inRangeInt, Option.all_some, Bool.not_eq_true', Bool.and_eq_false_iff, decide_eq_false_iff_not,
      Option.some.injEq, exists_eq_left', Classical.not_and_iff_not_or_not]

theorem Part.heatCap_eq (p : Part) : p.heatCap = match p.heat.table with
    | none => 0
    | some t => t.table.cap := by
  unfold Part.heatCap
  cases p.heat.table <;> rfl

theorem Part.manualRemaining_eq (p : Part) : p.manualRemaining = match p.heat.manual with
    | none => 0
    | some m => m.remaining := by
  unfold Part.manualRemaining
  cases p.heat.manual <;> rfl

/-! ## A reply that ends an event (R177, R179) -/

/-- The reply of a command whose work ends an event after an operation that touches no queue. -/
theorem State.replied_finish {s : State} {q : Part} {name : CommandName} {c : Frame} {rest : List Frame}
    (h : s.part.Admits name c rest) (outer : q.outer = s.part.outer) (status : Status) (fields : List Byte) :
    s.replied c (.answer q.finish status fields) = s.answers q.finish c rest status fields :=
  State.replied_answer h (q.finish_commands.trans (Part.commands_of_outer outer)) status fields

/-! ## HEAT_NOW and HEAT_STOP (R114, R116) -/

/-- R114: the outcome of HEAT_NOW. -/
theorem exec_heatNow {s : State} {c : Frame} {rest : List Frame} (admits : s.part.Admits .heatNow c rest) :
    let p := s.part
    let mask := zoneBits (byteAt c.payload 3) 0
    let target := targetOf c.payload 4
    let energy := u16 c.payload 5
    let q : Part := { p with heat := { p.heat with
      manual := some ⟨mask, target, 1000 * energy⟩, demandDue := true } }
    exec .heatNow s =
      if mask = ⟨false, false, false, false⟩ ∨ (∃ x, target = some x ∧ ¬ (0 ≤ x ∧ x ≤ 40)) ∨ energy = 0 then
        s.answers p c rest .range []
      else if p.heatCap < energy then s.answers p c rest .overLimit []
      else s.answers q.finish c rest .ok (beBytes 6 (1000 * energy) ++ beBytes 6 p.manualRemaining) := by
  intro p mask target energy q
  rw [show exec .heatNow s = _ from State.take_replied (name := .heatNow) nofun admits heatNowWork, heatNowWork]
  simp only [apply_ite (s.replied c), State.replied_refuse admits]
  refine ite_eq_of_iff (or_congr Iff.rfl (or_congr (not_targetOk_iff target) Iff.rfl)) <| ite_eq_of_iff Iff.rfl ?_
  exact State.replied_finish (q := q) admits rfl .ok _

/-- R116: the outcome of HEAT_STOP. -/
theorem exec_heatStop {s : State} {c : Frame} {rest : List Frame} (admits : s.part.Admits .heatStop c rest) :
    exec .heatStop s = s.answers (s.part.endManual.endBursts .stopped).finish c rest .ok
      [countByte s.part.burstCount, flagByte s.part.heat.manual.isSome] :=
  State.take_finishes (name := .heatStop) (work := heatStopWork) nofun admits rfl
    (by rw [Part.endBursts_outer, Part.endManual_outer])

/-- Settles O55: the outcomes of the two commands, with the cap and the energy that remained read from the sources. -/
theorem manualHeatStartsAndStops : Obligations.ManualHeatStartsAndStops := by
  intro c rest s p
  refine ⟨fun admits => ?_, fun admits => exec_heatStop admits⟩
  intro mask target energy cap before q
  have capped : p.heatCap = cap := p.heatCap_eq
  have remained : p.manualRemaining = before := p.manualRemaining_eq
  rw [← capped, ← remained]
  exact exec_heatNow admits

/-! ## SET_DEPARTURE and CANCEL_DEPARTURE (R120, R121) -/

/-- R117: an entry stands behind those due no later, and before the first with more minutes to go, in whatever order the
list is. -/
theorem insertDeparture_place (d : Departure) (ds : List Departure) :
    ∃ before behind, ds = before ++ behind ∧ insertDeparture d ds = before ++ d :: behind
      ∧ (∀ e ∈ before, e.minutesToGo ≤ d.minutesToGo) ∧ ∀ e, behind.head? = some e → d.minutesToGo < e.minutesToGo := by
  induction ds with
  | nil => exact ⟨[], [], rfl, rfl, nofun, nofun⟩
  | cons a rest ih =>
    unfold insertDeparture
    split
    · next sooner => exact ⟨[], a :: rest, rfl, rfl, nofun, fun e first => Option.some.inj first ▸ sooner⟩
    · next later =>
      obtain ⟨before, behind, split, placed, noLater, after⟩ := ih
      refine ⟨a :: before, behind, by rw [split]; rfl, by rw [placed]; rfl, ?_, after⟩
      exact List.forall_mem_cons.mpr ⟨Nat.not_lt.mp later, noLater⟩

theorem Part.departureAt_isSome (p : Part) (minute : Nat) :
    (p.departureAt minute).isSome = p.heat.departures.any fun d => d.minute == minute :=
  List.isSome_find?

theorem Part.departureAt_isNone_iff (p : Part) (minute : Nat) : (p.departureAt minute).isNone = true ↔
    (p.heat.departures.any fun d => d.minute == minute) = false := by
  rw [← p.departureAt_isSome, Option.isSome_eq_false_iff]

theorem Part.setDeparture_outer (p : Part) (d : Departure) : (p.setDeparture d).outer = p.outer := by
  obtain ⟨departures, same⟩ := (p.modHeat fun h => { h with
    departures := insertDeparture d (h.departures.filter fun e => e.minute != d.minute) }).evalWindows_frame
  rw [Part.setDeparture, same]
  rfl

@[simp] theorem Part.finish_departures (p : Part) : p.finish.heat.departures = p.heat.departures :=
  congrArg Steady.departures p.finish_steady

/-- R120: the outcome of SET_DEPARTURE with a valid clock. -/
theorem exec_setDeparture {s : State} {c : Frame} {rest : List Frame} {clock : Clock}
    (admits : s.part.Admits .setDeparture c rest) (valid : s.part.meter.clock = some clock) :
    let p := s.part
    let minute := u16 c.payload 3
    let target := targetOf c.payload 5
    let held := p.heat.departures.any fun e => e.minute == minute
    let toGo := minutesUntil minute clock.minute
    let q := (p.setDeparture ⟨minute, target, flagAt c.payload 6, toGo, false⟩).finish
    exec .setDeparture s =
      if 10079 < minute ∨ (∃ x, target = some x ∧ ¬ (0 ≤ x ∧ x ≤ 40)) then s.answers p c rest .range []
      else if 4 ≤ p.heat.departures.length ∧ held = false then s.answers p c rest .storeFull []
      else s.answers q c rest .ok (beBytes 2 toGo
        ++ [flagByte held, flagByte ((q.departureAt minute).any fun d => d.active)]) := by
  intro p minute target held toGo q
  rw [show exec .setDeparture s = _ from State.take_replied (name := .setDeparture) nofun admits setDepartureWork,
    setDepartureWork]
  simp only [valid, apply_ite (s.replied c), State.replied_refuse admits]
  refine ite_eq_of_iff (or_congr Iff.rfl (not_targetOk_iff target)) <|
    ite_eq_of_iff (and_congr Iff.rfl (p.departureAt_isNone_iff minute)) ?_
  rw [p.departureAt_isSome minute]
  exact State.replied_finish admits (p.setDeparture_outer _) .ok _

/-- R121: the outcome of CANCEL_DEPARTURE. -/
theorem exec_cancelDeparture {s : State} {c : Frame} {rest : List Frame}
    (admits : s.part.Admits .cancelDeparture c rest) :
    let p := s.part
    let minute := u16 c.payload 3
    let others := p.heat.departures.filter fun e => e.minute != minute
    exec .cancelDeparture s =
      if 10079 < minute then s.answers p c rest .range []
      else if (p.heat.departures.any fun e => e.minute == minute) = false then s.answers p c rest .notFound []
      else s.answers ({ p with heat := { p.heat with departures := others } } : Part).finish c rest .ok
        [countByte others.length] := by
  intro p minute others
  rw [show exec .cancelDeparture s = _ from State.take_replied (name := .cancelDeparture) nofun admits cancelDepartureWork,
    cancelDepartureWork]
  simp only [apply_ite (s.replied c), State.replied_refuse admits, Part.finish_departures]
  refine ite_eq_of_iff Iff.rfl <| ite_eq_of_iff (p.departureAt_isNone_iff minute) ?_
  exact State.replied_finish (q := { p with heat := { p.heat with departures := others } }) admits rfl .ok _

/-- Settles O56: SET_DEPARTURE with and without a valid clock, the place of an entry, and CANCEL_DEPARTURE. -/
theorem departuresAreSetAndCancelled : Obligations.DeparturesAreSetAndCancelled := by
  refine ⟨?_, insertDeparture_place, fun c rest s => exec_cancelDeparture⟩
  intro c rest s admits p minute target weekly others held
  cases valid : p.meter.clock with
  | none =>
    refine State.take_refuses (name := .setDeparture) (work := setDepartureWork) nofun admits ?_
    rw [setDepartureWork, valid]
  | some clock => exact exec_setDeparture admits valid

end Sys2Proof.Machine
end

section
/-! PROOFS. The Insulation Monitor: how it enters a state, and what a failed mode change does (O29). -/

namespace Sys2Proof.Machine

/-! ## Changes of state (R124, R132, R144) -/

/-- R124: of the monitor a drive of the mode moves the mode, its pending change and the latest settled reading. -/
theorem Part.syncMode_monitor (p : Part) : p.syncMode.monitor = { p.monitor with
    mode := p.syncMode.monitor.mode
    latest := p.syncMode.monitor.latest
    change := p.syncMode.monitor.change } := by
  rw [Part.syncMode_eq]
  dsimp only
  split
  · rfl
  · rw [Part.queueDrive_monitor]

theorem Part.syncMode_context (p : Part) : p.syncMode.monitor.context = p.monitor.context := by
  rw [Part.syncMode_monitor]

/-- R132: a change of state by its parts: the mode that follows, the notice, the inert flag and the demand. -/
theorem Part.enterMonitor_eq (p : Part) (st : MonitorState) (reason : Option UnknownReason) :
    let led := (p.modMonitor fun m => { m with state := st, reason := reason }).syncMode
    let told := led.raise (.insulationState p.monitor.state st p.monitor.context led.monitor.latest reason)
    p.enterMonitor st reason = { told with
      locator := { told.locator with inert := told.locator.inert && st != .normal }
      heat := { told.heat with demandDue := true } } := by
  intro led told
  have context : led.monitor.context = p.monitor.context := Part.syncMode_context _
  have raised :
      led.raise (.insulationState p.monitor.state st led.monitor.context led.monitor.latest reason) = told := by
    rw [context]
  have entered : p.enterMonitor st reason =
      (if st = .normal then told.modLocator fun l => { l with inert := false } else told).demandDue := by
    rw [← raised]
    rfl
  rw [entered]
  by_cases normal : st = .normal
  · rw [if_pos normal, normal, show (MonitorState.normal != .normal) = false from rfl, Bool.and_false]
    rfl
  · rw [if_neg normal, bne_iff_ne.mpr normal, Bool.and_true]
    rfl

/-- R132: of the monitor a change of state moves the state with its reason, and what the drive of the mode moves. -/
theorem Part.enterMonitor_monitor (p : Part) (st : MonitorState) (reason : Option UnknownReason) :
    (p.enterMonitor st reason).monitor = { p.monitor with
      state := st
      reason := reason
      mode := (p.enterMonitor st reason).monitor.mode
      latest := (p.enterMonitor st reason).monitor.latest
      change := (p.enterMonitor st reason).monitor.change } := by
  rw [Part.enterMonitor_eq]
  exact Part.syncMode_monitor _

/-! ## Entry into SETTLING (R128) -/

theorem Part.enterSettling_eq_of_settling {p : Part} (settling : p.monitor.state = .settling) :
    p.enterSettling = p.modMonitor Monitor.settleCleared := by
  rw [Part.enterSettling, settling]

theorem Part.enterSettling_eq_of_unknown {p : Part} (unknown : p.monitor.state = .unknown) :
    p.enterSettling = ((p.modMonitor Monitor.settleCleared).enterMonitor .settling none).monitorBack := by
  rw [Part.enterSettling, unknown]

theorem Part.enterSettling_eq_of_other {p : Part} (moves : p.monitor.state ≠ .settling)
    (known : p.monitor.state ≠ .unknown) :
    p.enterSettling = (p.modMonitor Monitor.settleCleared).enterMonitor .settling none := by
  unfold Part.enterSettling
  split
  · next settling => exact absurd settling moves
  · next unknown => exact absurd unknown known
  · rfl

/-! ## Entry into UNKNOWN (R136, R85) -/

theorem Part.queueDrive_session (p : Part) (d : Drive) : (p.queueDrive d).session = p.session := by
  unfold Part.queueDrive
  split <;> rfl

theorem Part.queueMode_session (p : Part) : p.queueMode.session = p.session := Part.queueDrive_session _ _

/-- R85: only a session in CONNECTING..SUSPENDED takes the cause and its grace. -/
theorem Part.monitorLost_cases (p : Part) :
    let connected := p.session.state = .connecting ∨ p.session.state = .preheat ∨ p.session.state = .charging
      ∨ p.session.state = .suspended
    let lost := p.addCause .insulationUnknown
    (connected → p.monitorLost = { lost with session := { lost.session with unknownGrace := some p.now } })
      ∧ (¬ connected → p.monitorLost = p) := by
  refine ⟨fun h => ?_, fun h => ?_⟩
  · rw [Part.monitorLost, if_pos ((SessionState.connected_iff _).mpr h)]
    rfl
  · rw [Part.monitorLost, if_neg (mt (SessionState.connected_iff _).mp h)]

/-- R136: the monitor as an entry into UNKNOWN clears it. -/
def Monitor.lostCleared (m : Monitor) (reason : UnknownReason) : Monitor :=
  { m.settleCleared with latest := if reason = .stale then none else m.latest }

/-- R136: entry into UNKNOWN, by what it does to the session. -/
theorem Part.enterUnknown_cases (p : Part) (reason : UnknownReason) :
    let connected := p.session.state = .connecting ∨ p.session.state = .preheat ∨ p.session.state = .charging
      ∨ p.session.state = .suspended
    let entered := (p.modMonitor fun m => m.lostCleared reason).enterMonitor .unknown (some reason)
    let queued := (entered.modMonitor fun m => { m with change := some ⟨m.mode, p.now + 300⟩ }).queueDrive
      (.injectorMode entered.monitor.mode)
    let lost := queued.addCause .insulationUnknown
    let graced := lost.modSession fun s => { s with unknownGrace := some p.now }
    (connected → p.enterUnknown reason = (graced.endBursts .unmonitored).abandon .unknown)
      ∧ (¬ connected → p.enterUnknown reason = (queued.endBursts .unmonitored).abandon .unknown) := by
  intro connected entered queued lost graced
  have enteredNow : entered.now = p.now :=
    congrArg Outer.now (Part.enterMonitor_outer (p.modMonitor fun m => m.lostCleared reason) .unknown (some reason))
  have again : entered.queueMode = queued := by
    unfold Part.queueMode
    rw [enteredNow]
    rfl
  have queuedNow : queued.now = p.now := by
    rw [← again, ← enteredNow]
    exact congrArg Outer.now entered.queueMode_outer
  have session : queued.session = p.session := by
    rw [← again, Part.queueMode_session]
    exact (Part.enterMonitor_elsewhere _ _ _).1
  have whole : p.enterUnknown reason = (queued.monitorLost.endBursts .unmonitored).abandon .unknown := by
    rw [← again]
    rfl
  have reported := queued.monitorLost_cases
  rw [session, queuedNow] at reported
  obtain ⟨told, untold⟩ := reported
  rw [whole]
  refine ⟨fun h => ?_, fun h => ?_⟩
  · rw [told h]
    rfl
  · rw [untold h]

/-! ## A failed mode change (R125) -/

theorem exec_modeDeadlineExpiry {s : State} {w : Awaiting InjectorMode} (pending : s.part.monitor.change = some w)
    (due : w.deadline ≤ s.part.now) : exec .modeDeadlineExpiry s = s.leaves s.part.modeFailed.finish :=
  State.after_when_due (due := fun p => p.deadlinePassed p.monitor.change) (fun p => p.modeFailed.finish)
    (Part.deadlinePassed_of_due pending due)

/-- The mode pending change is gone. -/
def Part.modeDropped (p : Part) : Part := p.modMonitor fun m => { m with change := none }

theorem Part.modeFailed_judging {p : Part}
    (judging : p.monitor.state = .settling ∨ p.monitor.state = .normal ∨ p.monitor.state = .warning) :
    p.modeFailed = p.modeDropped.enterUnknown .mode := by
  unfold Part.modeFailed
  rcases judging with st | st | st <;> rw [st] <;> rfl

theorem Part.modeFailed_checking {p : Part} {t : Loaded InsulationTable} (checking : p.monitor.state = .checking)
    (table : p.monitor.table = some t) : p.modeFailed = p.modeDropped.endSelfCheck t.table (some .mode) none := by
  unfold Part.modeFailed
  rw [checking, table]
  rfl

theorem Part.modeFailed_other {p : Part}
    (other : p.monitor.state = .unknown ∨ p.monitor.state = .off ∨ p.monitor.state = .faulty
      ∨ p.monitor.state = .tripped) : p.modeFailed = p.modeDropped := by
  unfold Part.modeFailed
  rcases other with st | st | st | st <;> rw [st] <;> rfl

/-- Settles O29: the failure by the monitor's state, and the entries into UNKNOWN, SETTLING and any state. -/
theorem modeDeadlineByMonitorState : Obligations.ModeDeadlineByMonitorState := by
  refine ⟨?_, Part.enterUnknown_cases, ?_, ?_⟩
  · intro w s p pending due q
    rw [exec_modeDeadlineExpiry pending due]
    refine ⟨fun judging => ?_, fun t checking table => ?_, fun other => ?_⟩
    · rw [Part.modeFailed_judging judging]
      rfl
    · rw [Part.modeFailed_checking checking table]
      rfl
    · rw [Part.modeFailed_other other]
      rfl
  · intro p cleared entered stopped
    exact ⟨Part.enterSettling_eq_of_settling, Part.enterSettling_eq_of_unknown, Part.enterSettling_eq_of_other⟩
  · intro p st reason mode moved led
    have modes : commandedMode st p.monitor.context = mode := commandedMode_eq _ _
    have synced : moved.syncMode = led := by
      rw [Part.syncMode_eq]
      show (if commandedMode st p.monitor.context = p.monitor.mode then _ else _) = _
      rw [modes]
    rw [← synced]
    exact p.enterMonitor_eq st reason

end Sys2Proof.Machine
end

section
/-! PROOFS. The commands of the Insulation Monitor: CLEAR_TRIP (O57) and SELF_CHECK (O58). -/

namespace Sys2Proof.Machine

/-! ## CLEAR_TRIP (R135) -/

/-- R135: a trip that clears enters SETTLING, from TRIPPED. -/
theorem Part.clearTrip_monitor {p : Part} (tripped : p.monitor.state = .tripped) (reading : Nat) :
    (p.clearTrip reading).monitor.state = .settling ∧ (p.clearTrip reading).monitor.settleTaken = 0
      ∧ (p.clearTrip reading).monitor.tripLatch = false := by
  unfold Part.clearTrip
  generalize told : (p.modMonitor fun m => { m with tripLatch := false }).raise
    (.tripChange false p.monitor.context reading none) = q
  have monitor : q.monitor = { p.monitor with tripLatch := false } := told ▸ rfl
  have state : q.monitor.state = .tripped := by rw [monitor]; exact tripped
  rw [Part.enterSettling_eq_of_other (state ▸ nofun) (state ▸ nofun), Part.enterMonitor_monitor]
  exact ⟨rfl, rfl, congrArg Monitor.tripLatch monitor⟩

theorem Part.clearTrip_outer (p : Part) (reading : Nat) : (p.clearTrip reading).outer = p.outer := by
  unfold Part.clearTrip
  rw [Part.enterSettling_outer, Part.raise_outer]
  rfl

@[simp] theorem Part.finish_tripLatch (p : Part) : p.finish.monitor.tripLatch = p.monitor.tripLatch :=
  congrArg Steady.tripLatch p.finish_steady

/-- R135: in every other state the command is refused, with the fields that it carries in every case. -/
theorem clearTripWork_of_not_tripped {p : Part} (other : p.monitor.state ≠ .tripped) (c : Frame) :
    clearTripWork p c = .answer p .wrongState p.clearTripFields :=
  if_pos other

/-- R135: with no settled reading the trip stands. -/
theorem clearTripWork_of_unread {p : Part} (tripped : p.monitor.state = .tripped) (unread : p.monitor.latest = none)
    (c : Frame) : clearTripWork p c = .answer p .tripped p.clearTripFields := by
  rw [clearTripWork, if_neg (not_not_intro tripped), unread]

/-- R135: a settled reading clears the trip from the recover limit on. -/
theorem clearTripWork_of_reading {p : Part} {r : Nat} (tripped : p.monitor.state = .tripped)
    (read : p.monitor.latest = some r) (c : Frame) :
    clearTripWork p c = if r < p.recoverLimit then .answer p .tripped p.clearTripFields
      else .answer (p.clearTrip r).finish .ok p.clearTripFields := by
  rw [clearTripWork, if_neg (not_not_intro tripped), read]

/-- Settles O57: by the monitor's state, and in TRIPPED by the latest settled reading. -/
theorem clearTripNeedsRecovery : Obligations.ClearTripNeedsRecovery := by
  intro c rest s admits p fields
  have kept (status : Status) : s.replied c (.answer p status fields) = s.answers p c rest status fields :=
    State.replied_answer admits rfl status fields
  rw [show exec .clearTrip s = _ from State.take_replied (name := .clearTrip) nofun admits clearTripWork]
  refine ⟨fun other => ?_, fun tripped => ⟨fun unread => ?_, fun r read => ⟨fun low => ?_, ?_⟩⟩⟩
  · rw [clearTripWork_of_not_tripped other]
    exact kept .wrongState
  · rw [clearTripWork_of_unread tripped unread]
    exact kept .tripped
  · rw [clearTripWork_of_reading tripped read, if_pos low]
    exact kept .tripped
  · intro recovered q
    rw [clearTripWork_of_reading tripped read, if_neg (Nat.not_lt.mpr recovered)]
    obtain ⟨state, taken, latch⟩ := Part.clearTrip_monitor tripped r
    exact ⟨State.replied_finish admits (p.clearTrip_outer r) .ok fields,
      (Part.finish_tripLatch _).trans latch, state, taken⟩

/-! ## SELF_CHECK (R137, R138) -/

/-- R137: the monitor enters CHECKING with its count at 0. -/
theorem Part.enterChecking_monitor (p : Part) :
    p.enterChecking.monitor.state = .checking ∧ p.enterChecking.monitor.checkCount = 0 := by
  have monitor : p.enterChecking.monitor =
      ((p.modMonitor fun m => { m with checkCount := 0 }).enterMonitor .checking none).monitor :=
    Part.endBurstsOf_monitor _ _ _
  rw [monitor, Part.enterMonitor_monitor]
  exact ⟨rfl, rfl⟩

/-- R138: a session past PLUG_WAIT. -/
theorem Part.sessionPastPlug_iff (p : Part) :
    p.sessionPastPlug = true ↔ p.session.state ≠ .closed ∧ p.session.state ≠ .plugWait := by
  unfold Part.sessionPastPlug
  cases p.session.state <;> decide

theorem Part.checkFields_eq (p : Part) : p.checkFields = match p.monitor.table with
    | none => [0#8, 0#8, 0#8, 0#8, 0#8]
    | some t => beBytes 2 t.table.acceptBand.1 ++ beBytes 2 t.table.acceptBand.2 ++ [countByte t.table.samples] := by
  unfold Part.checkFields
  cases p.monitor.table <;> rfl

/-- R138: what keeps a self-check from starting. -/
theorem Part.checkBarred_iff (p : Part) :
    (p.tripped = true ∨ p.monitor.state = .checking ∨ 0 < p.burstCount ∨ p.locator.active = true) ↔
      (p.monitor.state = .tripped ∨ p.monitor.state = .checking ∨ p.heat.burstOrder ≠ []
        ∨ p.locator.active = true) := by
  rw [Part.tripped, beq_iff_eq, Part.burstCount, List.length_pos_iff]

/-- Settles O58: the refusals in order, and the entry into CHECKING. -/
theorem selfCheckEntersChecking : Obligations.SelfCheckEntersChecking := by
  intro c rest s admits p past q
  refine ⟨?_, p.enterChecking_monitor⟩
  rw [show exec .selfCheck s = _ from State.take_replied (name := .selfCheck) nofun admits selfCheckWork, selfCheckWork]
  simp only [apply_ite (s.replied c), State.replied_refuse admits]
  refine ite_eq_of_iff p.sessionPastPlug_iff <| ite_eq_of_iff p.checkBarred_iff ?_
  exact (State.replied_finish admits p.enterChecking_outer .ok _).trans
    (congrArg (s.answers q.finish c rest .ok) p.checkFields_eq)

end Sys2Proof.Machine
end

section
/-! PROOFS. RESTORE_BRANCH (O60): its refusals, and what a branch that returns to service changes. -/

namespace Sys2Proof.Machine

/-! ## Single branches and zones -/

theorem Part.modBranch_branch_same (p : Part) (b : Branch) (f : BranchEntry → BranchEntry) :
    (p.modBranch b f).branch b = f (p.branch b) :=
  PerBranch.get_set_same _ _ _

theorem Part.modBranch_branch_other (p : Part) (f : BranchEntry → BranchEntry) {a b : Branch} (other : a ≠ b) :
    (p.modBranch b f).branch a = p.branch a :=
  PerBranch.get_set_other _ _ _ _ other

theorem Part.modZone_zone_same (p : Part) (z : Zone) (f : ZoneContext → ZoneContext) :
    (p.modZone z f).zone z = f (p.zone z) :=
  PerZone.get_set_same _ _ _

/-! ## A settle request (R128) -/

theorem Part.queueDrive_branches (p : Part) (d : Drive) : (p.queueDrive d).drive.branches = p.drive.branches :=
  congrArg (fun a : Wired × Budget => a.1.branches) (p.queueDrive_aside d)

/-- R124, R132: a change of the monitor's state queues a drive at most, and leaves the branch map alone. -/
theorem Part.enterMonitor_branches (p : Part) (st : MonitorState) (reason : Option UnknownReason) :
    (p.enterMonitor st reason).drive.branches = p.drive.branches := by
  rw [Part.enterMonitor_eq]
  show (Part.syncMode _).drive.branches = p.drive.branches
  rw [Part.syncMode_eq]
  dsimp only
  split
  · rfl
  · exact Part.queueDrive_branches _ _

/-- R128: a settle request restarts the settling, enters it, or changes nothing. -/
theorem Part.settleRequest_cases (p : Part) : p.settleRequest = p.modMonitor Monitor.settleCleared
    ∨ p.settleRequest = (p.modMonitor Monitor.settleCleared).enterMonitor .settling none ∨ p.settleRequest = p := by
  unfold Part.settleRequest
  cases state : p.monitor.state with
  | settling => exact .inl (Part.enterSettling_eq_of_settling state)
  | normal => exact .inr (.inl (Part.enterSettling_eq_of_other (state ▸ nofun) (state ▸ nofun)))
  | warning => exact .inr (.inl (Part.enterSettling_eq_of_other (state ▸ nofun) (state ▸ nofun)))
  | off | unknown | tripped | faulty | checking => exact .inr (.inr rfl)

/-- R128: a settle request touches neither the branches nor the Locator nor a zone. -/
theorem Part.settleRequest_elsewhere (p : Part) : p.settleRequest.drive.branches = p.drive.branches
    ∧ p.settleRequest.locator = p.locator ∧ p.settleRequest.heat.zones = p.heat.zones := by
  rcases p.settleRequest_cases with restarted | entered | same
  · rw [restarted]
    exact ⟨rfl, rfl, rfl⟩
  · rw [entered]
    obtain ⟨-, -, heat, -, -, locator⟩ :=
      (p.modMonitor Monitor.settleCleared).enterMonitor_elsewhere .settling none
    exact ⟨Part.enterMonitor_branches _ _ _, locator nofun, (congrArg Heating.zones heat).trans rfl⟩
  · rw [same]
    exact ⟨rfl, rfl, rfl⟩

/-! ## The return to service (R156, R112) -/

/-- R112: the branch's zone, if it has one, goes to OFF. -/
def Part.restoreZoneOf (p : Part) (b : Branch) : Part :=
  match b.zone with
  | none => p
  | some z => p.restoreZone z

theorem Part.restoreZoneOf_elsewhere (p : Part) (b : Branch) :
    (p.restoreZoneOf b).drive = p.drive ∧ (p.restoreZoneOf b).locator = p.locator := by
  unfold Part.restoreZoneOf
  split <;> exact ⟨rfl, rfl⟩

theorem Part.restoreZoneOf_zone (p : Part) {b : Branch} {z : Zone} (zone : b.zone = some z) :
    ((p.restoreZoneOf b).zone z).state = .off := by
  have restored : p.restoreZoneOf b = p.restoreZone z := by rw [Part.restoreZoneOf, zone]
  rw [restored]
  exact congrArg ZoneContext.state (p.modZone_zone_same z fun c => { c with state := .off })

/-- R156: the fault list with the branch's live entry no longer live. -/
def restoredFaults (b : Branch) (faults : List FaultEntry) : List FaultEntry :=
  faults.map fun e => { e with live := e.live && !e.liveFor b }

/-- R156: only the flag of an entry that is live for the branch changes. -/
theorem restoredFaults_eq (b : Branch) (faults : List FaultEntry) : restoredFaults b faults =
    faults.map fun e => if e.live = true ∧ e.branch = some b then { e with live := false } else e := by
  refine List.map_congr_left fun e _ => ?_
  have liveFor : e.liveFor b = true ↔ e.live = true ∧ e.branch = some b := by simp [FaultEntry.liveFor]
  split
  · next held => rw [liveFor.mpr held, Bool.not_true, Bool.and_false]
  · next other => rw [Bool.eq_false_iff.mpr (mt liveFor.mp other), Bool.not_false, Bool.and_true]

/-- R156: the branch's flag and its entry's before the zone and the monitor follow. -/
def Part.flagsRestored (p : Part) (b : Branch) : Part :=
  (p.modBranch b fun e => { e with quarantine := false }).modLocator fun l =>
    { l with faults := restoredFaults b l.faults }

theorem Part.flagsRestored_branch_same (p : Part) (b : Branch) :
    (p.flagsRestored b).branch b = { p.branch b with quarantine := false } :=
  p.modBranch_branch_same b fun e => { e with quarantine := false }

theorem Part.flagsRestored_branch_other (p : Part) {a b : Branch} (other : a ≠ b) :
    (p.flagsRestored b).branch a = p.branch a :=
  p.modBranch_branch_other (fun e => { e with quarantine := false }) other

theorem Part.restoreBranch_eq (p : Part) (b : Branch) :
    p.restoreBranch b = ((p.flagsRestored b).restoreZoneOf b).settleRequest := rfl

/-- R156: of the branches and the Locator the two flags alone change. -/
theorem Part.restoreBranch_elsewhere (p : Part) (b : Branch) :
    (p.restoreBranch b).drive.branches = (p.flagsRestored b).drive.branches
      ∧ (p.restoreBranch b).locator = { p.locator with faults := restoredFaults b p.locator.faults } := by
  obtain ⟨branches, locator, -⟩ := ((p.flagsRestored b).restoreZoneOf b).settleRequest_elsewhere
  obtain ⟨drive, kept⟩ := (p.flagsRestored b).restoreZoneOf_elsewhere b
  exact ⟨branches.trans (congrArg DriveUnit.branches drive), locator.trans kept⟩

theorem Part.restoreBranch_zone (p : Part) {b : Branch} {z : Zone} (zone : b.zone = some z) :
    ((p.restoreBranch b).zone z).state = .off := by
  obtain ⟨-, -, zones⟩ := ((p.flagsRestored b).restoreZoneOf b).settleRequest_elsewhere
  have same : (p.restoreBranch b).zone z = ((p.flagsRestored b).restoreZoneOf b).zone z :=
    congrArg (fun zs : PerZone ZoneContext => zs.get z) zones
  rw [same]
  exact Part.restoreZoneOf_zone _ zone

/-- Settles O60: the refusals in order, and the flags that a return to service clears. -/
theorem restoreBranchClearsQuarantine : Obligations.RestoreBranchClearsQuarantine := by
  intro c rest s admits p
  constructor
  · rw [show exec .restoreBranch s = _ from
      State.take_replied (name := .restoreBranch) nofun admits restoreBranchWork, restoreBranchWork]
    cases Branch.ofSheddableCode (u8 c.payload 3) with
    | none => exact State.replied_refuse admits .range
    | some b =>
      have kept (status : Status) : s.replied c (s.part.refuse status) = s.answers p c rest status [] :=
        State.replied_refuse admits status
      have restored : s.replied c (.answer (p.restoreBranch b).finish .ok [p.liveIndex b])
          = s.answers (p.restoreBranch b).finish c rest .ok [p.liveIndex b] :=
        State.replied_finish admits (p.restoreBranch_outer b) .ok _
      simp only [apply_ite (s.replied c), kept]
      exact ite_eq_of_iff Iff.rfl (ite_eq_of_iff (Bool.not_eq_true' _).to_iff restored)
  · intro b q
    obtain ⟨branches, locator⟩ := p.restoreBranch_elsewhere b
    rw [← restoredFaults_eq]
    have entry (a : Branch) : q.branch a = (p.flagsRestored b).branch a :=
      congrArg (fun bs : PerBranch BranchEntry => bs.get a) branches
    have free : (q.branch b).quarantine = false := by
      rw [entry]
      exact congrArg BranchEntry.quarantine (p.flagsRestored_branch_same b)
    have others (a : Branch) (other : a ≠ b) : q.branch a = p.branch a :=
      (entry a).trans (p.flagsRestored_branch_other other)
    have latched : q.locator.latch = p.locator.latch := (congrArg Locator.latch locator).trans rfl
    have inert : q.locator.inert = p.locator.inert := (congrArg Locator.inert locator).trans rfl
    exact ⟨free, others, congrArg Locator.faults locator, latched, inert, fun z zone => p.restoreBranch_zone zone⟩

end Sys2Proof.Machine
end

section
/-! PROOFS. The end of a locate procedure (O59): the fault list, the two verdicts, and the abandonment. -/

namespace Sys2Proof.Machine

/-! ## The fault list (R154) -/

theorem addFault_of_room {faults : List FaultEntry} (n : FaultEntry) (room : faults.length < 12) :
    addFault faults n = faults ++ [n] := by
  rw [addFault, if_pos room]

/-- R154: the entry that leaves is the first that is not live. -/
theorem dropOldestDead_append {before behind : List FaultEntry} {old : FaultEntry} (live : ∀ e ∈ before, e.live = true)
    (dead : old.live = false) : dropOldestDead (before ++ old :: behind) = before ++ behind := by
  induction before with
  | nil => exact if_neg (by simp [dead])
  | cons e before ih =>
    obtain ⟨first, others⟩ := List.forall_mem_cons.mp live
    rw [List.cons_append, dropOldestDead, if_pos first, ih others, List.cons_append]

theorem addFault_of_full {before behind : List FaultEntry} {old : FaultEntry} (n : FaultEntry)
    (live : ∀ e ∈ before, e.live = true) (dead : old.live = false) (full : 12 ≤ (before ++ old :: behind).length) :
    addFault (before ++ old :: behind) n = before ++ behind ++ [n] := by
  rw [addFault, if_neg (Nat.not_lt.mpr full), dropOldestDead_append live dead]

/-! ## Session and bursts leave the Locator's flags and the arbiter alone -/

/-- What the Locator decides from outside its own block: every branch's quarantine and shed flags, and the freeze that
it sets in the Budget Arbiter. -/
structure Barring where
  flags : PerBranch (Bool × Bool)
  budget : Budget

/-- The flags of every branch and the arbiter, read from the part. -/
def Part.barring (p : Part) : Barring := ⟨p.drive.branches.map fun e => (e.quarantine, e.shed), p.budget⟩

theorem Part.budget_of_barring {p q : Part} (h : q.barring = p.barring) : q.budget = p.budget :=
  congrArg Barring.budget h

theorem Part.flags_of_barring {p q : Part} (h : q.barring.flags = p.barring.flags) (b : Branch) :
    (q.branch b).quarantine = (p.branch b).quarantine ∧ (q.branch b).shed = (p.branch b).shed := by
  have flags := congrArg (fun m : PerBranch (Bool × Bool) => m.get b) h
  simp only [Part.barring, PerBranch.get_map] at flags
  exact Prod.mk.inj flags

theorem Part.barring_of_aside {p q : Part} (h : q.aside = p.aside) : q.barring = p.barring :=
  congrArg (fun a : Wired × Budget =>
    (⟨a.1.branches.map fun e : BranchEntry => (e.quarantine, e.shed), a.2⟩ : Barring)) h

theorem Part.modSession_barring (p : Part) (f : Session → Session) : (p.modSession f).barring = p.barring := rfl
theorem Part.modRecord_barring (p : Part) (f : Record → Record) : (p.modRecord f).barring = p.barring := rfl
theorem Part.raise_barring (p : Part) (body : NoticeBody) : (p.raise body).barring = p.barring := rfl
theorem Part.releaseInlet_barring (p : Part) : p.releaseInlet.barring = p.barring := rfl

theorem Part.enterSession_barring (p : Part) (st : SessionState) : (p.enterSession st).barring = p.barring := by
  rw [Part.enterSession, Part.raise_barring, Part.modSession_barring]

theorem Part.closeSession_barring (p : Part) : p.closeSession.barring = p.barring := by
  show p.closeRecord.barring = p.barring
  unfold Part.closeRecord
  split <;> rfl

theorem Part.cutTail_barring (p : Part) : p.cutTail.barring = p.barring := by
  unfold Part.cutTail
  split
  · rw [Part.closeSession_barring]
    split <;> rfl
  · rfl

theorem Part.beginTail_barring (p : Part) : p.beginTail.barring = p.barring := by
  unfold Part.beginTail
  split
  · exact p.closeSession_barring
  · split
    · exact p.cutTail_barring
    · rfl

/-- R87: a termination takes the session's claim away and no flag. -/
theorem Part.terminate_barring (p : Part) (c : Cause) : (p.terminate c).barring = p.barring := by
  cases running : p.session.state.running with
  | true =>
    rw [Part.terminate_of_running running, Part.beginTail_barring, Part.toEnding, Part.releaseInlet_barring,
      Part.enterSession_barring, Part.modRecord_barring, Part.modSession_barring]
  | false => rw [Part.terminate_of_not_running running]

theorem Part.checkFull_barring (p : Part) : p.checkFull.barring = p.barring := by
  unfold Part.checkFull
  split
  · exact p.terminate_barring _
  · rfl

theorem Part.moveByBand_barring (p : Part) : p.moveByBand.barring = p.barring := by
  rw [Part.moveByBand_eq]
  split
  · rfl
  · split <;> rfl

theorem Part.resumeTests_barring (p : Part) : p.resumeTests.barring = p.barring := by
  unfold Part.resumeTests
  split
  · split
    · rw [Part.enterPowered, Part.checkFull_barring, Part.enterSession_barring]
    · rfl
  · rw [Part.checkFull_barring, Part.moveByBand_barring]

/-- R83: the resumption that a cause's removal may bring, FULL included, changes no flag. -/
theorem Part.removeCause_barring (p : Part) (c : Suspension) : (p.removeCause c).barring = p.barring := by
  unfold Part.removeCause
  dsimp only
  split
  · split
    · rw [Part.resumeSession, Part.resumeTests_barring, Part.enterSession_barring, Part.modSession_barring,
        Part.modSession_barring]
    · rfl
  · rfl

/-! ## The end of a procedure (R153) -/

section
variable (p : Part) (how : LocateEnd)

/-- R153: a procedure that ends, with its result told and LOCATE not yet removed. -/
def Part.resultTold : Part :=
  ({ p with
    locator := { p.locator with active := false }
    budget := { p.budget with freeze := false, recomputeDue := true } } : Part).raise
      (.locateResult how p.locator.before p.locator.last p.locator.results p.locator.recordNumber)

theorem Part.endProcedure_eq : p.endProcedure how = ((p.resultTold how).removeCause .locate).demandDue := rfl

/-- R153: of the Locator's state an end clears the activity alone (log 24). -/
theorem Part.endProcedure_locator : (p.endProcedure how).locator = { p.locator with active := false } :=
  Part.locator_of_beside ((p.resultTold how).removeCause_beside .locate)

theorem Part.endProcedure_budget :
    (p.endProcedure how).budget = { p.budget with freeze := false, recomputeDue := true } :=
  Part.budget_of_barring ((p.resultTold how).removeCause_barring .locate)

theorem Part.endProcedure_flags : (p.endProcedure how).barring.flags = p.barring.flags :=
  (congrArg Barring.flags ((p.resultTold how).removeCause_barring .locate)).trans rfl

theorem Part.endProcedure_zone (z : Zone) : (p.endProcedure how).zone z = p.zone z :=
  (congrArg (fun h : Heating => h.zones.get z)
    (Part.heat_of_beside ((p.resultTold how).removeCause_beside .locate))).trans rfl

/-- R83: a session that LOCATE does not suspend goes on as it is. -/
theorem Part.endProcedure_session (free : p.session.causes.has .locate = false) :
    (p.endProcedure how).session = p.session :=
  (congrArg Part.session (Part.removeCause_of_absent (p := p.resultTold how) free)).trans rfl

end

/-! ## The verdict BUS (R151) -/

/-- R151: the entry and the inert flag that the verdict leaves, before the procedure ends. -/
def Part.busFound (p : Part) : Part :=
  p.modLocator fun l => { l with
    faults := addFault l.faults ⟨none, .bus, l.before, l.last, p.meter.clock, l.recordNumber, false⟩
    inert := l.inert || p.monitor.state == .warning }

theorem Part.verdictBus_eq (p : Part) : p.verdictBus = p.busFound.endProcedure .bus := rfl

/-- R151: what stands after the verdict BUS. -/
theorem Part.verdictBus_leaves (p : Part) :
    let l := p.locator
    let q := p.verdictBus
    q.locator.active = false ∧ q.budget.freeze = false ∧ q.locator.results = l.results
      ∧ q.locator.inert = (l.inert || p.monitor.state == .warning)
      ∧ q.locator.faults = addFault l.faults ⟨none, .bus, l.before, l.last, p.meter.clock, l.recordNumber, false⟩
      ∧ ∀ b, (q.branch b).quarantine = (p.branch b).quarantine ∧ (q.branch b).shed = (p.branch b).shed := by
  intro l q
  have locator : q.locator = { p.busFound.locator with active := false } := p.busFound.endProcedure_locator .bus
  have budget := p.busFound.endProcedure_budget .bus
  have flags : q.barring.flags = p.barring.flags := p.busFound.endProcedure_flags .bus
  rw [locator]
  exact ⟨rfl, (congrArg Budget.freeze budget).trans rfl, rfl, rfl, rfl, Part.flags_of_barring flags⟩

/-! ## A quarantine and its owner (R59, R90, R112) -/

/-- R112: a quarantined zone, its burst ended SHED and its demand gone. -/
theorem Part.quarantineZone_zone (p : Part) (z : Zone) :
    ((p.quarantineZone z).zone z).state = .quarantined ∧ ((p.quarantineZone z).zone z).demand = false := by
  simp [Part.quarantineZone, Part.demandDue, Part.zone, Part.raise]

theorem Part.quarantineZone_aside (p : Part) (z : Zone) : (p.quarantineZone z).aside = p.aside := by
  simp [Part.quarantineZone, Part.demandDue]

theorem Part.quarantineZone_locator (p : Part) (z : Zone) : (p.quarantineZone z).locator = p.locator := by
  simp [Part.quarantineZone, Part.demandDue, Part.raise, Part.locator_of_archive (p.endBurst_archive .shed z)]

section
variable {p : Part} {b : Branch}

theorem Part.applyQuarantine_of_zone {z : Zone} (zone : b.zone = some z) : p.applyQuarantine b = p.quarantineZone z := by
  rw [Part.applyQuarantine, zone]

theorem Part.applyQuarantine_of_inlet (zone : b.zone = none) (inlet : b ≠ .cargo) (owns : p.ownsInlet b = true) :
    p.applyQuarantine b = p.terminate .quarantined := by
  rw [Part.applyQuarantine, zone]
  exact (if_neg inlet).trans (if_pos owns)

/-- The owner of a quarantined branch changes neither the Locator nor a branch's flags, and of the arbiter's state the
cargo window at most. -/
theorem Part.applyQuarantine_elsewhere (p : Part) (b : Branch) :
    (p.applyQuarantine b).locator = p.locator ∧ (p.applyQuarantine b).barring.flags = p.barring.flags := by
  unfold Part.applyQuarantine
  split
  · next z _ =>
    exact ⟨p.quarantineZone_locator z, congrArg Barring.flags (Part.barring_of_aside (p.quarantineZone_aside z))⟩
  · split
    · exact ⟨rfl, rfl⟩
    · split
      · exact ⟨p.terminate_locator .quarantined, congrArg Barring.flags (p.terminate_barring .quarantined)⟩
      · exact ⟨rfl, rfl⟩

/-- R20: a session that owns an inlet branch is running. -/
theorem Part.running_of_ownsInlet (owns : p.ownsInlet b = true) : p.session.state.running = true := by
  have connected : p.session.state.connected = true := (Bool.and_eq_true_iff.mp owns).1
  rcases (SessionState.connected_iff _).mp connected with st | st | st | st <;> rw [st] <;> rfl

end

/-! ## The verdict QUARANTINED (R150) -/

/-- R150: the culprit's flags, its step result and its entry, before the owner and the end of the procedure. -/
def Part.culpritFound (p : Part) (b : Branch) (estimate : Nat) : Part :=
  let entry : FaultEntry :=
    ⟨some b, .quarantined, p.locator.before, estimate, p.meter.clock, p.locator.recordNumber, true⟩
  ((p.stepResult p.locator.cursor .culprit).modBranch b fun e => { e with quarantine := true, shed := false }).modLocator
    fun l => { l with faults := addFault l.faults entry }

section
variable (p : Part) (b : Branch) (estimate : Nat)

theorem Part.verdictQuarantined_eq : p.verdictQuarantined b estimate =
    ((p.culpritFound b estimate).applyQuarantine b).endProcedure (.quarantined b) := rfl

theorem Part.verdictQuarantined_locator : (p.verdictQuarantined b estimate).locator =
    { (p.culpritFound b estimate).locator with active := false } := by
  rw [Part.verdictQuarantined_eq, Part.endProcedure_locator, (Part.applyQuarantine_elsewhere _ b).1]

theorem Part.verdictQuarantined_branch : ((p.verdictQuarantined b estimate).branch b).quarantine = true
    ∧ ((p.verdictQuarantined b estimate).branch b).shed = false := by
  have flags : (p.verdictQuarantined b estimate).barring.flags = (p.culpritFound b estimate).barring.flags :=
    (Part.endProcedure_flags _ _).trans (Part.applyQuarantine_elsewhere _ b).2
  have entry : (p.culpritFound b estimate).branch b = { p.branch b with quarantine := true, shed := false } :=
    p.modBranch_branch_same b fun e => { e with quarantine := true, shed := false }
  obtain ⟨quarantine, shed⟩ := Part.flags_of_barring flags b
  rw [quarantine, shed, entry]
  exact ⟨rfl, rfl⟩

theorem Part.verdictQuarantined_zone {z : Zone} (zone : b.zone = some z) :
    ((p.verdictQuarantined b estimate).zone z).state = .quarantined
      ∧ ((p.verdictQuarantined b estimate).zone z).demand = false := by
  rw [Part.verdictQuarantined_eq, Part.endProcedure_zone, Part.applyQuarantine_of_zone zone]
  exact Part.quarantineZone_zone _ z

theorem Part.verdictQuarantined_freeze : (p.verdictQuarantined b estimate).budget.freeze = false := by
  rw [Part.verdictQuarantined_eq, Part.endProcedure_budget]

/-- R59: the cargo window of a quarantined CARGO branch empties. -/
theorem Part.verdictQuarantined_window : (p.verdictQuarantined .cargo estimate).budget.window = [] := by
  rw [Part.verdictQuarantined_eq, Part.endProcedure_budget]
  rfl

/-- R90: the session whose inlet branch is quarantined ends; it is not suspended any more, so that the removal of LOCATE
finds nothing to resume. -/
theorem Part.verdictQuarantined_session (owns : p.ownsInlet b = true) (inlet : b ≠ .cargo) (zone : b.zone = none) :
    let q := p.verdictQuarantined b estimate
    q.session.state = .closed ∨ (q.session.state = .ending ∧ q.session.cause = some .quarantined) := by
  intro q
  have owned : (p.culpritFound b estimate).ownsInlet b = true := owns
  obtain ⟨ends, -, -, causes, -⟩ := Part.terminate_leaves (Part.running_of_ownsInlet owned) .quarantined
  have session : q.session = ((p.culpritFound b estimate).terminate .quarantined).session := by
    show (p.verdictQuarantined b estimate).session = _
    rw [Part.verdictQuarantined_eq, Part.applyQuarantine_of_inlet zone inlet owned]
    exact Part.endProcedure_session _ _ (congrArg (SuspensionCauses.has · .locate) causes)
  rw [session]
  rcases ends with ⟨state, cause, -⟩ | closed
  · exact .inr ⟨state, cause⟩
  · exact .inl closed

end

/-! ## Abandonment (R152) -/

/-- R152: the latch that an abandonment leaves. -/
theorem AbandonReason.latches_eq (reason : AbandonReason) :
    reason.latches = decide (reason = .context ∨ reason = .unknown) := by
  cases reason <;> rfl

theorem Part.clearTestedShed_locator (p : Part) : p.clearTestedShed.locator = p.locator := by
  unfold Part.clearTestedShed
  split <;> rfl

theorem Part.clearTestedShed_branch {p : Part} {b : Branch} (tested : p.testedBranch = some b) :
    (p.clearTestedShed.branch b).shed = false := by
  rw [Part.clearTestedShed, tested]
  exact congrArg BranchEntry.shed (p.modBranch_branch_same b fun e => { e with shed := false })

section
variable {p : Part} (reason : AbandonReason)

theorem Part.abandon_of_inactive (idle : p.locator.active = false) : p.abandon reason = p :=
  if_neg (by simp [idle])

theorem Part.abandon_of_active (active : p.locator.active = true) : p.abandon reason =
    ((p.clearTestedShed).modLocator fun l => { l with latch := reason.latches }).endProcedure (.abandoned reason) :=
  if_pos active

theorem Part.abandon_locator (active : p.locator.active = true) : (p.abandon reason).locator =
    { p.locator with active := false, latch := decide (reason = .context ∨ reason = .unknown) } := by
  rw [Part.abandon_of_active reason active, Part.endProcedure_locator, ← AbandonReason.latches_eq]
  show ({ p.clearTestedShed.locator with active := false, latch := reason.latches } : Locator) = _
  rw [Part.clearTestedShed_locator]

theorem Part.abandon_freeze (active : p.locator.active = true) : (p.abandon reason).budget.freeze = false := by
  rw [Part.abandon_of_active reason active, Part.endProcedure_budget]

theorem Part.abandon_shed (active : p.locator.active = true) {b : Branch} (tested : p.testedBranch = some b) :
    ((p.abandon reason).branch b).shed = false := by
  have flags : (p.abandon reason).barring.flags = p.clearTestedShed.barring.flags := by
    rw [Part.abandon_of_active reason active, Part.endProcedure_flags]
    rfl
  rw [(Part.flags_of_barring flags b).2]
  exact Part.clearTestedShed_branch tested

end

end Sys2Proof.Machine
end

section
/-! PROOFS. The locate procedure (O59): LOCATE_NOW, the start, the steps, and the judgement of handed samples. -/

namespace Sys2Proof.Machine

/-! ## LOCATE_NOW (R155) -/

theorem exec_locateNow {s : State} {c : Frame} {rest : List Frame} (admits : s.part.Admits .locateNow c rest) :
    exec .locateNow s =
      if s.part.monitor.state = .tripped then s.answers s.part c rest .tripped []
      else if s.part.monitor.state = .faulty then s.answers s.part c rest .monitorFault []
      else if s.part.locator.active = true then s.answers s.part c rest .wrongState []
      else s.answers { s.part with locator := { s.part.locator with latch := true } } c rest .ok
        [s.part.monitor.state.code, flagByte s.part.locator.latch] := by
  rw [show exec .locateNow s = _ from State.take_replied (name := .locateNow) nofun admits locateNowWork, locateNowWork]
  simp only [apply_ite (s.replied c), State.replied_refuse admits]
  have latched : s.replied c (.answer (s.part.modLocator fun l => { l with latch := true }) .ok
      [s.part.monitor.state.code, flagByte s.part.locator.latch])
      = s.answers { s.part with locator := { s.part.locator with latch := true } } c rest .ok
        [s.part.monitor.state.code, flagByte s.part.locator.latch] :=
    State.replied_answer (after := s.part.modLocator fun l => { l with latch := true }) admits rfl _ _
  exact ite_eq_of_iff (by rw [Part.tripped, beq_iff_eq]) (ite_eq_of_iff Iff.rfl (ite_eq_of_iff Iff.rfl latched))

/-! ## Branches, as the steps look at them -/

/-- R21: a branch is to be commanded CLOSED. -/
theorem Part.shouldClose_iff (p : Part) (b : Branch) : p.shouldClose b = true ↔
    ((p.branch b).claimPart = true ∨ (p.branch b).claimSession = true) ∧ (p.branch b).shed = false
      ∧ (p.branch b).quarantine = false ∧ p.mgmt.partState = .run ∧ p.monitor.state ≠ .tripped := by
  simp [Part.shouldClose, BranchEntry.closes, BranchEntry.claimed, Part.inRun, Part.tripped, and_assoc]

/-- The branch under test is the entry of the shed list at the cursor. -/
theorem Part.testedBranch_eq (p : Part) :
    p.testedBranch = (p.monitor.table.elim [] fun t => t.table.shedList)[p.locator.cursor]? := by
  rw [Part.testedBranch, Part.shedList_eq]

theorem Part.tests_iff (p : Part) (b : Branch) : p.tests b = true ↔ p.locator.active = true
    ∧ (p.monitor.table.elim [] fun t => t.table.shedList)[p.locator.cursor]? = some b := by
  rw [Part.tests, Bool.and_eq_true, beq_iff_eq, Part.testedBranch_eq]

/-- R90: the session is connected by the branch. -/
theorem Part.ownsInlet_iff (p : Part) (b : Branch) : p.ownsInlet b = true ↔
    (p.session.state = .connecting ∨ p.session.state = .preheat ∨ p.session.state = .charging
      ∨ p.session.state = .suspended) ∧ ∃ k : ChargeKind, p.session.kindActual = some k ∧ k.branch = b := by
  rw [Part.ownsInlet, Bool.and_eq_true, SessionState.connected_iff]
  refine and_congr_right fun _ => ?_
  cases p.session.kindActual <;> simp

/-! ## The start of a procedure (R145) -/

/-- R145: the Locator as a handed sample starts it. -/
def Part.procedureBegun (p : Part) (estimate : Nat) : Part :=
  { p with locator := { p.locator with
    latch := false
    active := true
    cursor := 0
    phase := .shedding
    sampleCount := 0
    results := List.replicate 7 .notReached
    before := estimate
    last := estimate
    recordNumber := p.store.opened.elim 0 fun r => r.number } }

/-- R145, R67: the session suspended, the bursts shed, the demand cleared and the grants frozen. -/
def Part.procedureFrozen (p : Part) (estimate : Nat) : Part :=
  ((((p.procedureBegun estimate).addCause .locate).endBursts .shed).clearDemand).modBudget
    fun b => { b with freeze := true, recomputeDue := true }

theorem Part.procedureFrozen_monitor (p : Part) (estimate : Nat) : (p.procedureFrozen estimate).monitor = p.monitor := by
  rw [Part.procedureFrozen, Part.modBudget_monitor, Part.clearDemand, Part.modHeat_monitor, Part.modZones_monitor,
    Part.endBursts, Part.endBurstsOf_monitor, Part.monitor_of_beside (Part.addCause_beside _ _)]
  rfl

theorem Part.startProcedure_eq (p : Part) (estimate : Nat) : p.startProcedure estimate =
    Part.beginStep (p.monitor.table.elim [] fun t => t.table.shedList) 0 (p.procedureFrozen estimate) := by
  have number : p.openNumber = p.store.opened.elim 0 fun r => r.number := by
    unfold Part.openNumber
    cases p.store.opened <;> rfl
  rw [← p.procedureFrozen_monitor estimate, ← Part.shedList_eq]
  unfold Part.startProcedure
  rw [number]
  rfl

section
variable {p : Part} (t : InsulationTable) (estimate : Nat)

theorem Part.handToLocator_of_active (active : p.locator.active = true) (latched : Bool) :
    p.handToLocator t estimate latched = p.stepSample t estimate :=
  if_pos active

theorem Part.handToLocator_of_latched (idle : p.locator.active = false) :
    p.handToLocator t estimate true = p.startProcedure estimate :=
  if_neg (Bool.eq_false_iff.mp idle)

end

/-! ## A step begins (R146) -/

theorem Part.beginStep_of_skipped {p : Part} {b : Branch} (opens : ¬ p.shouldClose b = true) (cursor : Nat)
    (rest : List Branch) : Part.beginStep (b :: rest) cursor p = Part.beginStep rest (cursor + 1)
      { p with locator := { p.locator with cursor := cursor, results := p.locator.results.set cursor .skipped } } := by
  have barred : ((p.branch b).quarantine || !p.shouldClose b) = true := by
    rw [Bool.eq_false_iff.mpr opens, Bool.not_false, Bool.or_true]
  rw [Part.beginStep, if_pos barred]
  rfl

theorem Part.beginStep_of_closed {p : Part} {b : Branch} (closes : p.shouldClose b = true) (cursor : Nat)
    (rest : List Branch) : Part.beginStep (b :: rest) cursor p = ({ p with locator := { p.locator with
      cursor := cursor, phase := .shedding, sampleCount := 0 } } : Part).modBranch b fun e => { e with shed := true } := by
  obtain ⟨-, -, free, -⟩ := (p.shouldClose_iff b).mp closes
  have goes : ¬ ((p.branch b).quarantine || !p.shouldClose b) = true := by simp [free, closes]
  rw [Part.beginStep, if_neg goes]
  rfl

/-- The next step begins on the list and at the cursor of a part that has them in common. -/
theorem Part.advanceStep_eq {p q : Part} (monitor : q.monitor = p.monitor) (cursor : q.locator.cursor = p.locator.cursor) :
    q.advanceStep = Part.beginStep
      ((p.monitor.table.elim [] fun t => t.table.shedList).drop (p.locator.cursor + 1)) (p.locator.cursor + 1) q := by
  rw [Part.advanceStep, cursor, Part.shedList_eq, monitor]

/-! ## Changes and movements of the branch under test (R147 to R149) -/

/-- The step result of the branch under test, set. -/
def Part.stepMarked (p : Part) (r : StepResult) : Part :=
  { p with locator := { p.locator with results := p.locator.results.set p.locator.cursor r } }

theorem Part.notIsolated_of_own {p : Part} {b : Branch} (own : p.ownsInlet b = true) :
    p.notIsolated b = p.stepMarked .notIsolated :=
  if_pos own

theorem Part.notIsolated_of_other {p : Part} {b : Branch} (other : ¬ p.ownsInlet b = true) :
    p.notIsolated b = Part.beginStep
      ((p.monitor.table.elim [] fun t => t.table.shedList).drop (p.locator.cursor + 1)) (p.locator.cursor + 1)
      ((p.stepMarked .notIsolated).modBranch b fun e => { e with shed := false }) :=
  (if_neg other).trans (Part.advanceStep_eq rfl rfl)

section
variable {p : Part} {b : Branch}

theorem Part.locate_of_untested (untested : ¬ p.tests b = true) :
    (∀ closed, p.locateConfirmed b closed = p ∧ p.locateFailed b closed = p) ∧ p.locateMoved b = p :=
  ⟨fun _ => ⟨if_neg untested, if_neg untested⟩, if_neg untested⟩

/-- R147: in SHEDDING the step waits for its branch's change to OPEN. -/
theorem Part.locate_of_shedding (tests : p.tests b = true) (phase : p.locator.phase = .shedding) :
    p.locateConfirmed b false = { p with locator := { p.locator with phase := .settling, sampleCount := 0 } }
      ∧ p.locateConfirmed b true = p ∧ p.locateFailed b true = p ∧ p.locateMoved b = p
      ∧ p.locateFailed b false = p.notIsolated b := by
  simp only [Part.locateConfirmed, Part.locateFailed, Part.locateMoved, if_pos tests, phase, Part.modLocator, and_self]

/-- R148: while samples are counted only an uncommanded movement is the step's own. -/
theorem Part.locate_of_counting (tests : p.tests b = true)
    (phase : p.locator.phase = .settling ∨ p.locator.phase = .confirming) :
    (∀ closed, p.locateConfirmed b closed = p ∧ p.locateFailed b closed = p) ∧ p.locateMoved b = p.notIsolated b := by
  rcases phase with phase | phase <;>
    simp only [Part.locateConfirmed, Part.locateFailed, Part.locateMoved, if_pos tests, phase, and_self, implies_true]

/-- R149: in RESTORING the step waits for its branch's change to CLOSED. -/
theorem Part.locate_of_restoring (tests : p.tests b = true) (phase : p.locator.phase = .restoring) :
    p.locateConfirmed b true = p.advanceStep ∧ p.locateConfirmed b false = p ∧ p.locateFailed b false = p
      ∧ p.locateMoved b = p ∧ p.locateFailed b true = (p.reportContactor b).advanceStep := by
  simp only [Part.locateConfirmed, Part.locateFailed, Part.locateMoved, if_pos tests, phase, and_self]

/-- Log 28: a failed restore of the session's own branch terminates the session, and the procedure advances. -/
theorem Part.reportContactor_advances_of_own (own : p.ownsInlet b = true) :
    (p.reportContactor b).advanceStep = Part.beginStep
      ((p.monitor.table.elim [] fun t => t.table.shedList).drop (p.locator.cursor + 1)) (p.locator.cursor + 1)
      (p.terminate .contactor) := by
  rw [Part.reportContactor, if_pos own]
  exact Part.advanceStep_eq (Part.monitor_of_beside (p.terminate_beside .contactor))
    (congrArg Locator.cursor (p.terminate_locator .contactor))

theorem Part.reportContactor_of_other (other : ¬ p.ownsInlet b = true) : p.reportContactor b = p :=
  if_neg other

end

/-! ## A handed sample (R148) -/

/-- R148, R149: the step ends FAULT_REMAINS, and its branch is to be restored. -/
def Part.stepRestored (p : Part) (b : Branch) (estimate : Nat) : Part :=
  ({ p with locator := { p.locator with
    last := estimate
    results := p.locator.results.set p.locator.cursor .faultRemains
    phase := .restoring
    sampleCount := 0 } } : Part).modBranch b fun e => { e with shed := false }

/-- R148: the sample is counted in its phase. -/
def Part.stepCounted (p : Part) (estimate : Nat) : Part :=
  { p with locator := { p.locator with last := estimate, sampleCount := p.locator.sampleCount + 1 } }

/-- A count that reaches a limit, and one that stays below it. -/
theorem ite_le_eq_ite_lt {α : Type} {m n : Nat} (x y : α) : (if m ≤ n then x else y) = if n < m then y else x := by
  simp only [← Nat.not_lt, ite_not]

section
variable {p : Part} {t : InsulationTable} {estimate : Nat} {b : Branch}

theorem Part.stepSample_of_waiting (phase : p.locator.phase = .shedding ∨ p.locator.phase = .restoring) :
    p.stepSample t estimate = { p with locator := { p.locator with last := estimate } } := by
  unfold Part.stepSample
  rcases phase with phase | phase <;> rw [phase] <;> cases p.testedBranch <;> rfl

theorem Part.stepSample_of_settling (tested : p.testedBranch = some b) (phase : p.locator.phase = .settling) :
    p.stepSample t estimate = if p.locator.sampleCount + 1 < t.locateSettle then p.stepCounted estimate
      else { p with locator := { p.locator with last := estimate, phase := .confirming, sampleCount := 0 } } := by
  unfold Part.stepSample
  rw [tested, phase]
  exact ite_le_eq_ite_lt _ _

theorem Part.stepSample_of_confirming_high (tested : p.testedBranch = some b) (phase : p.locator.phase = .confirming)
    (high : (t.record p.monitor.context).recover ≤ estimate) :
    p.stepSample t estimate = if p.locator.sampleCount + 1 < t.locateConfirm then p.stepCounted estimate
      else (p.stepCounted estimate).verdictQuarantined b estimate := by
  unfold Part.stepSample
  rw [tested, phase]
  dsimp only
  rw [if_pos high]
  exact ite_le_eq_ite_lt _ _

theorem Part.stepSample_of_confirming_low (tested : p.testedBranch = some b) (phase : p.locator.phase = .confirming)
    (low : estimate < (t.record p.monitor.context).recover) :
    p.stepSample t estimate = if (p.stepRestored b estimate).shouldClose b then p.stepRestored b estimate
      else Part.beginStep
        ((p.monitor.table.elim [] fun t => t.table.shedList).drop (p.locator.cursor + 1)) (p.locator.cursor + 1)
        (p.stepRestored b estimate) := by
  rw [← Part.advanceStep_eq (p := p) (q := p.stepRestored b estimate) rfl rfl]
  unfold Part.stepSample
  rw [tested, phase]
  dsimp only
  rw [if_neg (Nat.not_le.mpr low)]
  rfl

end

/-! ## The statement, clause by clause -/

/-- R150: what stands after the verdict QUARANTINED. -/
theorem Part.verdictQuarantined_leaves (p : Part) (b : Branch) (estimate : Nat) :
    let l := p.locator
    let q := p.verdictQuarantined b estimate
    q.locator.active = false ∧ q.budget.freeze = false ∧ q.locator.latch = l.latch ∧ q.locator.inert = l.inert
      ∧ q.locator.results = l.results.set l.cursor .culprit
      ∧ q.locator.faults = addFault l.faults
        ⟨some b, .quarantined, l.before, estimate, p.meter.clock, l.recordNumber, true⟩
      ∧ (q.branch b).quarantine = true ∧ (q.branch b).shed = false
      ∧ (∀ z, b.zone = some z → (q.zone z).state = .quarantined ∧ (q.zone z).demand = false)
      ∧ (b = .cargo → q.budget.window = [])
      ∧ (p.ownsInlet b = true → b ≠ .cargo → b.zone = none →
        q.session.state = .closed ∨ (q.session.state = .ending ∧ q.session.cause = some .quarantined)) := by
  intro l q
  have locator : q.locator = { (p.culpritFound b estimate).locator with active := false } :=
    p.verdictQuarantined_locator b estimate
  obtain ⟨quarantine, shed⟩ := p.verdictQuarantined_branch b estimate
  rw [locator]
  refine ⟨rfl, p.verdictQuarantined_freeze b estimate, rfl, rfl, rfl, rfl, quarantine, shed,
    fun z => p.verdictQuarantined_zone b estimate, ?_, p.verdictQuarantined_session b estimate⟩
  rintro rfl
  exact p.verdictQuarantined_window estimate

/-- Settles O59: the command, the start, the steps, the two verdicts, the abandonment, the end and the fault list. -/
theorem locateNowSetsLatch : Obligations.LocateNowSetsLatch := by
  refine ⟨fun c rest s => exec_locateNow, fun p t est latched => ?start, fun p cursor b rest => ?begin,
    fun p b => ?changes, fun p t est b => ?sample, Part.verdictQuarantined_leaves, Part.verdictBus_leaves,
    fun p reason => ?abandon, fun p how => rfl, fun faults n => addFault_of_room n,
    fun before behind old n => addFault_of_full n⟩
  case start =>
    intro begun told frozen
    refine ⟨fun active => Part.handToLocator_of_active t est active latched, ?_, ?_⟩
    · rintro idle rfl
      exact Part.handToLocator_idle idle t est
    · rintro idle rfl
      exact (Part.handToLocator_of_latched t est idle).trans (p.startProcedure_eq est)
  case begin =>
    intro e closes
    have decides : p.shouldClose b = true ↔ closes := p.shouldClose_iff b
    exact ⟨rfl, fun opens => Part.beginStep_of_skipped (mt decides.mp opens) cursor rest,
      fun holds => Part.beginStep_of_closed (decides.mpr holds) cursor rest⟩
  case changes =>
    intro l list tests own advance unshed marked
    have tested : p.tests b = true ↔ tests := p.tests_iff b
    have owned : p.ownsInlet b = true ↔ own := p.ownsInlet_iff b
    refine ⟨fun untested => Part.locate_of_untested (mt tested.mp untested), fun ofBranch phase => ?_,
      fun ofBranch phase => ?_, fun ofBranch phase => ?_⟩
    · obtain ⟨opened, closed, kept, unmoved, failed⟩ := Part.locate_of_shedding (tested.mpr ofBranch) phase
      exact ⟨opened, closed, kept, unmoved, fun holds => failed.trans (Part.notIsolated_of_own (owned.mpr holds)),
        fun other => failed.trans (Part.notIsolated_of_other (mt owned.mp other))⟩
    · obtain ⟨kept, moved⟩ := Part.locate_of_counting (tested.mpr ofBranch) phase
      exact ⟨kept, fun holds => moved.trans (Part.notIsolated_of_own (owned.mpr holds)),
        fun other => moved.trans (Part.notIsolated_of_other (mt owned.mp other))⟩
    · obtain ⟨closed, opened, kept, unmoved, failed⟩ := Part.locate_of_restoring (tested.mpr ofBranch) phase
      have advances : p.advanceStep = advance p := Part.advanceStep_eq rfl rfl
      refine ⟨closed.trans advances, opened, kept, unmoved,
        fun holds => failed.trans (Part.reportContactor_advances_of_own (owned.mpr holds)), fun other => ?_⟩
      rw [failed, Part.reportContactor_of_other (mt owned.mp other), advances]
  case sample =>
    intro l list r limit counted restored tested
    have tested : p.testedBranch = some b := p.testedBranch_eq.trans tested
    exact ⟨Part.stepSample_of_waiting, Part.stepSample_of_settling tested,
      Part.stepSample_of_confirming_high tested, Part.stepSample_of_confirming_low tested⟩
  case abandon =>
    intro l list q
    refine ⟨Part.abandon_of_inactive reason, Part.abandon_locator reason,
      fun active => ⟨Part.abandon_freeze reason active, fun b tested => ?_⟩⟩
    exact Part.abandon_shed reason active (p.testedBranch_eq.trans tested)

end Sys2Proof.Machine
end

section
/-! PROOFS. The commands on the session records (O50): READ_RECORD and RELEASE_RECORDS. -/

namespace Sys2Proof.Machine

/-! ## READ_RECORD (R168) -/

/-- R168: the outcome of READ_RECORD. -/
theorem exec_readRecord {s : State} {c : Frame} {rest : List Frame} (admits : s.part.Admits .readRecord c rest) :
    let p := s.part
    let number := u16 c.payload 3
    let offset := u16 c.payload 5
    exec .readRecord s =
      match p.store.find number with
      | none => s.answers p c rest .notFound p.store.endsBytes
      | some r =>
        if r.size ≤ offset then s.answers p c rest .range []
        else
          let count := min 24 (r.size - offset)
          s.answers p c rest .ok (beBytes 2 number ++ [p.store.stateByte number] ++ beBytes 2 r.size
            ++ beBytes 2 offset ++ beBytes 1 count ++ (r.bytes.drop offset).take count ++ p.store.endsBytes
            ++ beBytes 2 p.store.free) := by
  intro p number offset
  rw [show exec .readRecord s = _ from State.take_replied (name := .readRecord) nofun admits readRecordWork,
    readRecordWork]
  dsimp only
  cases p.store.find number with
  | none => exact State.replied_answer admits rfl .notFound _
  | some r =>
    simp only [apply_ite (s.replied c), State.replied_refuse admits]
    exact ite_eq_of_iff Iff.rfl (State.replied_answer admits rfl .ok _)

/-! ## The CLOSED records about a named one (R169) -/

theorem RecordStore.held_isEmpty_iff (s : RecordStore) : s.held.isEmpty = true ↔ s.closed = [] ∧ s.opened = none := by
  rw [List.isEmpty_iff, RecordStore.held, List.append_eq_nil_iff, Option.toList_eq_nil_iff]

section Named

variable {s : RecordStore} {number : Nat} {before behind : List Record} {r : Record}
  (closed : s.closed = before ++ r :: behind) (named : r.number = number) (older : ∀ x ∈ before, x.number ≠ number)
include closed named older

/-- R169: the records counted as released are the older ones and the named one. -/
theorem RecordStore.releaseCount_of_named : s.releaseCount number = before.length + 1 := by
  rw [RecordStore.releaseCount, closed, List.takeWhile_append_of_pos fun x held => bne_iff_ne.mpr (older x held)]
  simp [named]

/-- R169: the records behind the named one stay. -/
theorem RecordStore.drop_through_named :
    (s.closed.dropWhile fun x => x.number != number).drop 1 = behind := by
  rw [closed, List.dropWhile_append_of_pos fun x held => bne_iff_ne.mpr (older x held)]
  simp [named]

theorem RecordStore.find_named : s.closed.find? (fun x => x.number == number) = some r :=
  List.find?_eq_some_iff_append.mpr
    ⟨beq_iff_eq.mpr named, before, behind, closed, fun x held => by simpa using older x held⟩

/-- R169: a release takes the records up to the named one and moves the tail to its end, or to the head when no record
is left. -/
theorem RecordStore.release_of_named :
    s.release number = { s with
      closed := behind
      tail := if behind = [] ∧ s.opened = none then s.head else (r.start + r.size) % s.areaSize } := by
  rw [RecordStore.release, drop_through_named closed named older, find_named closed named older]
  dsimp only
  split
  · next empty => rw [if_pos ((RecordStore.held_isEmpty_iff _).mp empty)]
  · next kept => rw [if_neg (mt (RecordStore.held_isEmpty_iff _).mpr kept)]

end Named

/-! ## RELEASE_RECORDS (R169) -/

/-- R169: the outcome of RELEASE_RECORDS. -/
theorem exec_releaseRecords {s : State} {c : Frame} {rest : List Frame}
    (admits : s.part.Admits .releaseRecords c rest) :
    let p := s.part
    let number := u16 c.payload 3
    let store := p.store.release number
    exec .releaseRecords s =
      if ∃ r ∈ p.store.closed, r.number = number then
        s.answers { p with store := store } c rest .ok
          ([countByte (p.store.releaseCount number)] ++ beBytes 2 store.oldest ++ beBytes 2 store.free)
      else s.answers p c rest .notFound p.store.endsBytes := by
  intro p number store
  rw [show exec .releaseRecords s = _ from
    State.take_replied (name := .releaseRecords) nofun admits releaseRecordsWork, releaseRecordsWork]
  dsimp only
  have held : (p.store.closed.any fun r => r.number == number) = true ↔ ∃ r ∈ p.store.closed, r.number = number := by
    simp only [List.any_eq_true, beq_iff_eq]
  rw [apply_ite (s.replied c)]
  refine ite_congr (propext held) (fun _ => ?released) fun _ => ?missing
  case released => exact State.replied_answer (after := p.modStore fun t => t.release number) admits rfl .ok _
  case missing => exact State.replied_answer admits rfl .notFound _

/-- Settles O50: the outcomes of the two commands, with the store that a release of a named CLOSED record leaves. -/
theorem recordsAreReadAndReleased : Obligations.RecordsAreReadAndReleased := by
  refine ⟨fun c rest s admits => exec_readRecord admits, fun c rest s admits => ?_⟩
  intro p number
  refine ⟨fun missing => (exec_releaseRecords admits).trans (if_neg missing), ?_⟩
  intro before behind r closed named older last store
  have found : ∃ x ∈ p.store.closed, x.number = number := ⟨r, by simp [closed], named⟩
  have left : p.store.release number = store := RecordStore.release_of_named closed named older
  have count : p.store.releaseCount number = before.length + 1 :=
    RecordStore.releaseCount_of_named closed named older
  rw [exec_releaseRecords admits, if_pos found, left, count]

end Sys2Proof.Machine
end

section
/-! PROOFS. Power-on and the reset input (O4, O10), and raising a notice (O22). -/

namespace Sys2Proof.Machine

/-! ## Power-on and the reset input (R172) -/

theorem Part.initial_safe (strap : BitVec 2) (portB : Option Frame) : (Part.initial strap portB).safe :=
  ⟨Part.initial_switchesDecided strap portB, Part.initial_drawHeld strap portB, Part.initial_balanced strap portB,
    Part.initial_grantsWithin strap portB, Part.initial_within strap portB⟩

/-- Settles O4: the five invariants hold of every initial part, and the machine after reset holds one. -/
theorem resetIsSafe : Obligations.ResetIsSafe := ⟨Part.initial_safe 0#2 none, Part.initial_safe⟩

/-- R1: the chain address, as a number. -/
theorem strapAddress_eq (strap : BitVec 2) : strapAddress strap = BitVec.ofNat 8 (56 + strap.toNat) := by
  unfold strapAddress
  bv_omega

@[simp] theorem PerRole.get_fill {α : Type} (a : α) (r : Role) : (PerRole.fill a).get r = a := by
  cases r <;> rfl

theorem Part.initial_imageOf (strap : BitVec 2) (portB : Option Frame) (t : TableId) :
    (Part.initial strap portB).imageOf t = none := by
  cases t <;> rfl

theorem Part.initial_noticeCapacity (strap : BitVec 2) (portB : Option Frame) :
    (Part.initial strap portB).noticeCapacity = 64 := by
  exact (rfl : 2048 / 32 = 64)

/-- Settles O10: the two rows put the initial part, whose registers are those of the chapters' reset rules. -/
theorem powerOnAndResetInput : Obligations.PowerOnAndResetInput := by
  refine ⟨fun strap s => ⟨rfl, rfl⟩, fun strap b => ?_⟩
  intro p
  have chain : p.chain = ⟨BitVec.ofNat 8 (56 + strap.toNat), [], b, false, false⟩ := by
    rw [← strapAddress_eq]
    rfl
  exact ⟨rfl, chain, rfl, Part.initial_noticeCapacity strap b, Part.initial_imageOf strap b, rfl,
    fun role => PerRole.get_fill _ role, rfl, rfl, rfl, rfl, rfl, rfl, rfl, fun b => PerBranch.get_fill _ b,
    rfl, rfl, rfl, rfl, rfl, rfl, fun z => PerZone.get_fill _ z, rfl, rfl, rfl, rfl, rfl, rfl, rfl, rfl, rfl, rfl⟩

/-! ## Raising a notice (R180) -/

theorem Part.noticeDestination_eq (p : Part) : p.noticeDestination = match p.addressOf .gateway with
    | none => 0#8
    | some a => a := by
  unfold Part.noticeDestination
  cases p.addressOf .gateway <;> rfl

/-- The latch of a kind that is raised, whatever the mask. -/
def Part.latched (p : Part) (b : NoticeBody) : Management :=
  { p.mgmt with raised := p.mgmt.raised ||| 1#16 <<< b.number }

section
variable {p : Part} {b : NoticeBody}

theorem Part.raise_of_masked (masked : p.mgmt.mask &&& 1#16 <<< b.number = 0#16) :
    p.raise b = { p with mgmt := p.latched b } := by
  unfold Part.raise Part.modMgmt
  dsimp only
  rw [if_pos masked]
  rfl

theorem Part.raise_of_room (enabled : p.mgmt.mask &&& 1#16 <<< b.number ≠ 0#16)
    (room : p.mgmt.notices.length < p.noticeCapacity) : p.raise b = { p with mgmt := { p.latched b with
      notices := p.mgmt.notices ++ [⟨p.noticeDestination, p.meter.clock, b⟩] } } := by
  unfold Part.raise Part.modMgmt
  dsimp only
  rw [if_neg enabled, if_pos room]
  rfl

theorem Part.raise_of_full (enabled : p.mgmt.mask &&& 1#16 <<< b.number ≠ 0#16)
    (full : p.noticeCapacity ≤ p.mgmt.notices.length) :
    p.raise b = { p with mgmt := { p.latched b with noticeLost := true } } := by
  unfold Part.raise Part.modMgmt
  dsimp only
  rw [if_neg enabled, if_neg (Nat.not_lt.mpr full)]
  rfl

end

/-- Settles O22: masked, with room, and with the queue full. -/
theorem raisingLatchesAndQueues : Obligations.RaisingLatchesAndQueues := by
  intro p b bit m dst
  refine ⟨Part.raise_of_masked, fun enabled room => ?_, Part.raise_of_full⟩
  have gateway : p.noticeDestination = dst := p.noticeDestination_eq
  rw [Part.raise_of_room enabled room, gateway]
  rfl

end Sys2Proof.Machine
end

section
/-! PROOFS. The taking of commands (O38), and the Management Unit's commands short of RESET: STATUS (O39),
CONFIGURE_MEMORY (O43), SET_NOTICE_MASK (O44), the staging commands (O45, O46) and READ_TABLE (O47). -/

namespace Sys2Proof.Machine

/-! ## The gates before a command's own rule (R177, R178, log 4) -/

/-- The row of a name takes the head command under that name, by the rule that specifies it. -/
theorem exec_row (name : CommandName) (s : State) : exec name.row s = s.take name (workOf name) := by
  cases name <;> rfl

theorem Part.dropCommand_eq {p : Part} {c : Frame} {rest : List Frame} (queued : p.mgmt.commands = c :: rest) :
    p.dropCommand = { p with mgmt := { p.mgmt with commands := rest } } := by
  unfold Part.dropCommand Part.modMgmt
  dsimp only
  rw [queued]
  rfl

theorem CommandName.takenInDormant_iff (name : CommandName) :
    (!name.takenInDormant) = true ↔ name ≠ .status ∧ name ≠ .wake := by
  cases name <;> decide

theorem CommandName.takenInHeld_iff (name : CommandName) : name.takenInHeld = true ↔
    name ∈ [.status, .configureMemory, .setNoticeMask, .loadBegin, .loadData, .loadCommit, .loadCancel,
      .readTable, .setClock, .release, .resetLink, .resetHeat, .resetPart, .releaseRecords, .readBranches,
      .readBudget, .sessionStatus, .readHeat, .readInsulation, .readFaults, .readRecord] := by
  cases name <;> decide

/-- R177: a head that is takeable is examined under its own name. -/
theorem exec_row_of_takeable {s : State} {c : Frame} {rest : List Frame} (queued : s.part.mgmt.commands = c :: rest)
    (unheld : s.part.mgmt.validation = none) (place : s.part.mgmt.answers.length < 8) :
    exec (nameOf c.payload).row s =
      s.replied c (s.part.examine (nameOf c.payload) (workOf (nameOf c.payload)) c) := by
  have takeable : s.part.takeable = true := by simp [Part.takeable, queued, unheld, place]
  have taken : s.part.takeAs (nameOf c.payload) (workOf (nameOf c.payload)) =
      respond c s.part (s.part.examine (nameOf c.payload) (workOf (nameOf c.payload)) c) := by
    unfold Part.takeAs
    rw [queued]
    exact if_pos ⟨takeable, rfl⟩
  rw [exec_row, State.replied, ← taken]
  rfl

/-- What a reply to the head command comes to, reply by reply. -/
theorem State.replied_cases (s : State) {c : Frame} {rest : List Frame} (queued : s.part.mgmt.commands = c :: rest)
    (r : Reply) : s.replied c r = match r with
      | .silent => s.leaves { s.part with mgmt := { s.part.mgmt with commands := rest } }
      | .answer after status fields =>
        .next { s with part := (after.dropCommand.pushAnswer (answerTo c status fields)).arbitrate }
      | .hold after => s.leaves after := by
  cases r with
  | silent => rw [State.replied, respond, Part.dropCommand_eq queued, State.leaves]
  | answer after status fields => rfl
  | hold after => rfl

/-- Settles O38: the gates in their order, the rows that take nothing, and the commands taken in HELD. -/
theorem commandGates : Obligations.CommandGates := by
  refine ⟨fun c rest s => ?taken, fun name s other => ?untaken, CommandName.takenInHeld_iff⟩
  case taken =>
    intro p name queued unheld place
    have refuses (status : Status) : s.replied c (p.refuse status) = s.answers p c rest status [] := by
      rw [State.replied, Part.refuse, respond_answer queued]
      rfl
    have gated : exec name.row s = s.replied c (p.examine name (workOf name) c) :=
      exec_row_of_takeable queued unheld place
    have dormant : p.mgmt.partState = .dormant ∧ (!name.takenInDormant) = true ↔
        p.mgmt.partState = .dormant ∧ name ≠ .status ∧ name ≠ .wake :=
      and_congr_right' name.takenInDormant_iff
    have unlisted (b : Bool) : (!b) = true ↔ b = false := by simp
    rw [gated, Part.examine]
    simp only [apply_ite (s.replied c), refuses]
    refine ite_congr rfl (fun _ => s.replied_cases queued .silent) fun _ => ?_
    exact ite_eq_of_iff Iff.rfl <| ite_eq_of_iff (unlisted _) <| ite_eq_of_iff dormant <|
      ite_eq_of_iff (and_congr_right' (unlisted _)) (s.replied_cases queued _)
  case untaken =>
    have missed : s.part.takeable = false ∨ s.part.headName ≠ some name := by
      rcases other with empty | held | full | named
      · exact .inl (by simp [Part.takeable, empty])
      · exact .inl (by simp [Part.takeable, held])
      · exact .inl (by simp [Part.takeable, full])
      · refine .inr fun head => ?_
        obtain ⟨c, first, same⟩ := Option.map_eq_some_iff.mp head
        obtain ⟨rest, queued⟩ := List.head?_eq_some_iff.mp first
        exact named c rest queued same
    rw [exec_row]
    exact congrArg s.leaves (Part.takeAs_other (workOf name) missed)

/-! ## STATUS (R182) -/

theorem Part.stagingCode_eq (p : Part) : p.stagingCode = (p.mgmt.staging.map fun g => g.table.code).getD 0#8 := by
  unfold Part.stagingCode
  cases p.mgmt.staging <;> rfl

theorem Part.statusPage0_eq (p : Part) : p.statusPage0 =
    beBytes 2 p.mgmt.raised.toNat
      ++ [flagByte p.chain.linkError, flagByte p.chain.linkOverrun, flagByte p.mgmt.noticeLost]
      ++ [p.mgmt.partState.code, p.mgmt.wakeReason.code, p.monitor.state.code, flagByte p.monitor.tripLatch]
      ++ maybeResistance p.monitor.latest ++ [p.session.state.code] ++ beBytes 2 p.session.recordNumber
      ++ [flagByte p.meter.clock.isSome] ++ stampBytes p.meter.clock ++ beBytes 2 p.store.free
      ++ [(p.mgmt.staging.map fun g => g.table.code).getD 0#8, tableSetByte p.mgmt.committed] := by
  simp only [Part.statusPage0, Part.statusHead, p.stagingCode_eq, List.append_assoc, List.cons_append,
    List.nil_append]

/-- R182: the outcome of STATUS by its page. -/
theorem exec_status {s : State} {c : Frame} {rest : List Frame} (admits : s.part.Admits .status c rest) :
    exec .status s =
      if u8 c.payload 3 = 0 then s.answers s.part.clearStatus c rest .ok s.part.statusPage0
      else if u8 c.payload 3 = 1 then s.answers s.part.clearStatus c rest .ok s.part.statusPage1
      else s.answers s.part c rest .range [] := by
  have replied : exec .status s = s.replied c (statusWork s.part c) :=
    State.take_replied (name := .status) nofun admits statusWork
  rw [replied, statusWork]
  split
  · next page => rw [if_pos page]; exact State.replied_answer (after := s.part.clearStatus) admits rfl .ok _
  · next page =>
    rw [page, if_neg nofun, if_pos rfl]
    exact State.replied_answer (after := s.part.clearStatus) admits rfl .ok _
  · next first second => rw [if_neg first, if_neg second]; exact State.replied_refuse admits .range

/-- Settles O39: the outcome, and the bytes of the two pages. -/
theorem statusReportsAndClears : Obligations.StatusReportsAndClears :=
  ⟨fun _ _ _ admits => exec_status admits, fun p => ⟨p.statusPage0_eq, rfl⟩⟩

/-! ## CONFIGURE_MEMORY (R176) -/

/-- R176: the ranges of the three sizes. -/
theorem sizesOk_iff (record staging notice : Nat) : sizesOk record staging notice = true ↔
    record % 32 = 0 ∧ staging % 32 = 0 ∧ notice % 32 = 0 ∧ 2048 ≤ record
      ∧ (staging = 0 ∨ (256 ≤ staging ∧ staging ≤ 2048)) ∧ 256 ≤ notice ∧ notice ≤ 2048
      ∧ record + staging + notice ≤ 16384 := by
  simp [sizesOk, inRange, and_assoc]

/-- Settles O43: the two refusals in their order, and the sizes taken. -/
theorem configureMemoryTakesSizes : Obligations.ConfigureMemoryTakesSizes := by
  intro c rest s admits p record staging notice ok
  have replied : exec .configureMemory s = s.replied c (configureMemoryWork s.part c) :=
    State.take_replied (name := .configureMemory) nofun admits configureMemoryWork
  have ranged : (!sizesOk record staging notice) = true ↔ ¬ ok := by
    rw [Bool.not_eq_true', ← Bool.not_eq_true, sizesOk_iff]
  rw [replied, configureMemoryWork]
  simp only [apply_ite (s.replied c), State.replied_refuse admits]
  refine ite_eq_of_iff Iff.rfl <| ite_eq_of_iff ranged ?_
  exact State.replied_answer (after := p.configure record staging notice) admits rfl .ok _

/-! ## SET_NOTICE_MASK (R181) -/

theorem lowBits_clear : ∀ k < 14, (0xC000#16).getLsbD k = false := by decide

/-- R181: positions 14 and 15 of a mask. -/
theorem highBits_ne_zero_iff (mask : BitVec 16) :
    mask &&& 0xC000#16 ≠ 0#16 ↔ mask.getLsbD 14 = true ∨ mask.getLsbD 15 = true := by
  constructor
  · intro set
    refine Decidable.byContradiction fun clear => ?_
    rw [not_or, Bool.not_eq_true, Bool.not_eq_true] at clear
    obtain ⟨low, high⟩ := clear
    refine set (BitVec.eq_of_getLsbD_eq fun k inside => ?_)
    rw [BitVec.getLsbD_and]
    have positions : k < 14 ∨ k = 14 ∨ k = 15 := by omega
    rcases positions with below | rfl | rfl
    · rw [lowBits_clear k below, Bool.and_false, BitVec.getLsbD_zero]
    · rw [low, Bool.false_and, BitVec.getLsbD_zero]
    · rw [high, Bool.false_and, BitVec.getLsbD_zero]
  · intro set zero
    have bit (k : Nat) : (mask.getLsbD k && (0xC000#16).getLsbD k) = false := by
      rw [← BitVec.getLsbD_and, zero, BitVec.getLsbD_zero]
    rcases set with set | set
    · exact absurd (bit 14) (by rw [set]; decide)
    · exact absurd (bit 15) (by rw [set]; decide)

/-- Settles O44: the refusal, and the mask taken. -/
theorem noticeMaskIsSet : Obligations.NoticeMaskIsSet := by
  intro c rest s admits p mask
  have replied : exec .setNoticeMask s = s.replied c (setNoticeMaskWork s.part c) :=
    State.take_replied (name := .setNoticeMask) nofun admits setNoticeMaskWork
  rw [replied, setNoticeMaskWork]
  simp only [apply_ite (s.replied c), State.replied_refuse admits]
  refine ite_eq_of_iff (highBits_ne_zero_iff mask) ?_
  exact State.replied_answer (after := { p with mgmt := { p.mgmt with mask := mask } }) admits rfl .ok _

/-! ## The staging commands (R183 to R185) -/

theorem Part.needsBorrow_iff (p : Part) :
    p.needsBorrow = true ↔ p.mgmt.stagingSize = 0 ∧ p.store.borrow = false := by
  simp [Part.needsBorrow]

theorem Part.takeBorrow_commands (p : Part) : p.takeBorrow.mgmt.commands = p.mgmt.commands :=
  Part.commands_of_outer (by rw [Part.takeBorrow, Part.storeLowCheck_outer, Part.modStore_outer])

/-- R183, R170: the outcome of LOAD_BEGIN for the table its id names. -/
theorem exec_loadBegin {s : State} {c : Frame} {rest : List Frame} (admits : s.part.Admits .loadBegin c rest) :
    let p := s.part
    let length := u16 c.payload 4
    let borrows := p.mgmt.stagingSize = 0 ∧ p.store.borrow = false
    exec .loadBegin s =
      match TableId.ofCode (u8 c.payload 3) with
      | none => s.answers p c rest .range []
      | some t =>
        if length = 0 ∨ 256 < length then s.answers p c rest .range []
        else if borrows ∧ p.session.state ≠ .closed then s.answers p c rest .sessionBusy []
        else if borrows ∧ p.store.free < 544 then s.answers p c rest .storeFull []
        else if borrows then s.answers (p.beginStaging t length).takeBorrow c rest .ok (discardedFields p.mgmt.staging)
        else s.answers (p.beginStaging t length) c rest .ok (discardedFields p.mgmt.staging) := by
  intro p length borrows
  have replied : exec .loadBegin s = s.replied c (loadBeginWork s.part c) :=
    State.take_replied (name := .loadBegin) nofun admits loadBeginWork
  rw [replied, loadBeginWork]
  cases TableId.ofCode (u8 c.payload 3) with
  | none => exact State.replied_refuse admits .range
  | some t =>
    simp only [apply_ite (s.replied c), State.replied_refuse admits]
    refine ite_eq_of_iff Iff.rfl <| ite_eq_of_iff (and_congr p.needsBorrow_iff p.sessionOpen_iff) <|
      ite_eq_of_iff (and_congr p.needsBorrow_iff Iff.rfl) ?_
    by_cases need : p.needsBorrow = true
    · rw [if_pos need, if_pos (p.needsBorrow_iff.mp need)]
      exact State.replied_answer (after := (p.beginStaging t length).takeBorrow) admits (Part.takeBorrow_commands _)
        .ok _
    · rw [if_neg need, if_neg (mt p.needsBorrow_iff.mpr need)]
      exact State.replied_answer (after := p.beginStaging t length) admits rfl .ok _

theorem discardedFields_eq (staging : Option Staging) : discardedFields staging = match staging with
    | none => [0#8, 0#8]
    | some g => [1#8, g.table.code] := by
  cases staging <;> rfl

/-- R183: the outcome of LOAD_DATA. -/
theorem exec_loadData {s : State} {c : Frame} {rest : List Frame} (admits : s.part.Admits .loadData c rest) :
    let p := s.part
    let offset := u8 c.payload 3
    let data := c.payload.drop 4
    exec .loadData s =
      match p.mgmt.staging with
      | none => s.answers p c rest .wrongState []
      | some g =>
        if g.length < offset + data.length ∨ data.length = 0 ∨ 24 < data.length then s.answers p c rest .range []
        else s.answers
          { p with mgmt := { p.mgmt with staging := some { g with
            buffer := g.buffer.take offset ++ data ++ g.buffer.drop (offset + data.length) } } }
          c rest .ok (beBytes 2 (offset + data.length)) := by
  intro p offset data
  have replied : exec .loadData s = s.replied c (loadDataWork s.part c) :=
    State.take_replied (name := .loadData) nofun admits loadDataWork
  rw [replied, loadDataWork]
  cases p.mgmt.staging with
  | none => exact State.replied_refuse admits .wrongState
  | some g =>
    simp only [apply_ite (s.replied c), State.replied_refuse admits]
    refine ite_eq_of_iff Iff.rfl ?_
    exact State.replied_answer (after := p.modMgmt fun m => { m with
      staging := some { g with buffer := overwrite g.buffer offset data } }) admits rfl .ok _

/-- R185, R170: the outcome of LOAD_CANCEL. -/
theorem exec_loadCancel {s : State} {c : Frame} {rest : List Frame} (admits : s.part.Admits .loadCancel c rest) :
    exec .loadCancel s = s.answers s.part.endStaging c rest .ok [s.part.stagingCode] :=
  State.take_answers (name := .loadCancel) (work := loadCancelWork) nofun admits rfl rfl

/-- Settles O45: the outcomes of the three commands. -/
theorem stagingIsLoaded : Obligations.StagingIsLoaded := by
  refine ⟨fun c rest s admits => ?begin, fun c rest s admits => exec_loadData admits, fun c rest s admits => ?cancel⟩
  case begin =>
    intro p id length borrows discarded
    have fields : discardedFields p.mgmt.staging = discarded := discardedFields_eq _
    rw [← fields]
    exact exec_loadBegin admits
  case cancel =>
    rw [exec_loadCancel admits, Part.stagingCode_eq]
    rfl

/-- R184: LOAD_COMMIT is refused before validation. -/
theorem Part.commitBarred_iff (p : Part) (g : Staging) : p.commitBarred g = true ↔
    (g.table = .node ∧ p.mgmt.partState ≠ .held) ∨ (g.table = .insulation ∧ p.locator.active = true) := by
  simp [Part.commitBarred]

/-- Settles O46: the refusals, and the validation that holds the head. -/
theorem loadCommitBeginsValidation : Obligations.LoadCommitBeginsValidation := by
  intro c rest s admits p
  have replied : exec .loadCommit s = s.replied c (loadCommitWork s.part c) :=
    State.take_replied (name := .loadCommit) nofun admits loadCommitWork
  rw [replied, loadCommitWork]
  cases p.mgmt.staging with
  | none => exact State.replied_refuse admits .wrongState
  | some g =>
    simp only [apply_ite (s.replied c), State.replied_refuse admits]
    exact ite_eq_of_iff (p.commitBarred_iff g) <| ite_eq_of_iff Iff.rfl rfl

/-! ## READ_TABLE (R186) -/

/-- Settles O47: the refusals, and the bytes read. -/
theorem readTableReturnsImage : Obligations.ReadTableReturnsImage := by
  intro c rest s admits p offset
  have replied : exec .readTable s = s.replied c (readTableWork s.part c) :=
    State.take_replied (name := .readTable) nofun admits readTableWork
  rw [replied, readTableWork]
  cases TableId.ofCode (u8 c.payload 3) with
  | none => exact State.replied_refuse admits .range
  | some t =>
    dsimp only
    cases p.imageOf t with
    | none => exact State.replied_refuse admits .notFound
    | some img =>
      simp only [apply_ite (s.replied c), State.replied_refuse admits]
      refine ite_eq_of_iff Iff.rfl ((State.replied_answer admits rfl .ok _).trans ?_)
      simp only [slice, List.append_assoc, List.cons_append, List.nil_append]
      rfl

end Sys2Proof.Machine
end

section
/-! PROOFS. RELEASE (O40), and the end of an event in which the monitor judges nothing. -/

namespace Sys2Proof.Machine

/-! ## The end of an event while the monitor judges nothing -/

/-- What of a branch neither the session nor the branch rule decides: the PART claim and the two flags that bar it. -/
def BranchEntry.standing (e : BranchEntry) : Bool × Bool × Bool := (e.claimPart, e.shed, e.quarantine)

/-- The PART claims and the flags of every branch, read from the part. -/
def Part.standing (p : Part) : PerBranch (Bool × Bool × Bool) := p.drive.branches.map BranchEntry.standing

theorem Part.standing_of_branches {p q : Part} (h : q.drive.branches = p.drive.branches) : q.standing = p.standing :=
  congrArg (PerBranch.map BranchEntry.standing) h

theorem Part.standing_of_wired {p q : Part} (h : q.wired = p.wired) : q.standing = p.standing :=
  Part.standing_of_branches (congrArg Wired.branches h)

theorem Part.branch_of_standing {p q : Part} (h : q.standing = p.standing) (b : Branch) :
    (q.branch b).claimPart = (p.branch b).claimPart ∧ (q.branch b).shed = (p.branch b).shed
      ∧ (q.branch b).quarantine = (p.branch b).quarantine := by
  have same := congrArg (fun m : PerBranch (Bool × Bool × Bool) => m.get b) h
  simp only [Part.standing, PerBranch.get_map, BranchEntry.standing] at same
  obtain ⟨claim, flags⟩ := Prod.mk.inj same
  exact ⟨claim, Prod.mk.inj flags⟩

/-- R20, R87: a termination takes the session's claim away, and nothing else of a branch. -/
theorem Part.terminate_standing (p : Part) (c : Cause) : (p.terminate c).standing = p.standing := by
  cases running : p.session.state.running with
  | true =>
    rw [Part.terminate_of_running running, Part.standing, Part.beginTail_drive]
    rfl
  | false => rw [Part.terminate_of_not_running running]

theorem Part.enterConnecting_standing_beside (p : Part) (k : ChargeKind) :
    (p.enterConnecting k).standing = p.standing ∧ (p.enterConnecting k).beside = p.beside := by
  rw [Part.enterConnecting_eq]
  dsimp only
  split
  · rw [Part.terminate_standing, Part.terminate_beside]
    cases k <;> exact ⟨rfl, rfl⟩
  · cases k <;> exact ⟨rfl, rfl⟩

/-- R76 to R78: the tests of PLUG_WAIT move the session and its own claim. -/
theorem Part.plugWait_standing_beside (p : Part) : p.plugWait.standing = p.standing ∧ p.plugWait.beside = p.beside := by
  have terminates (c : Cause) : (p.terminate c).standing = p.standing ∧ (p.terminate c).beside = p.beside :=
    ⟨p.terminate_standing c, p.terminate_beside c⟩
  unfold Part.plugWait
  split
  · split
    · split
      · exact terminates _
      · split
        · exact terminates _
        · split
          · exact p.enterConnecting_standing_beside _
          · exact ⟨rfl, rfl⟩
    · split
      · exact terminates _
      · exact ⟨rfl, rfl⟩
  · exact ⟨rfl, rfl⟩

/-- The states in which a change of context restarts the settling (R126). -/
def MonitorState.judging (st : MonitorState) : Prop := st = .settling ∨ st = .normal ∨ st = .warning

theorem Part.intoContext_branches (p : Part) (c : Context) : (p.intoContext c).drive.branches = p.drive.branches := by
  unfold Part.intoContext
  rw [Part.syncMode_eq]
  dsimp only
  split
  · rfl
  · exact Part.queueDrive_branches _ _

/-- R21: the branch rule decides the commanded state alone. -/
theorem Part.decideBranches_standing (p : Part) : p.decideBranches.standing = p.standing := by
  have decided (e : BranchEntry) : (e.decided p.inRun p.tripped p.now).standing = e.standing := by
    unfold BranchEntry.decided
    dsimp only
    split <;> rfl
  have map : p.withDecided.standing = p.standing := by
    unfold Part.standing Part.withDecided Part.decidedBranches PerBranch.map
    simp only [decided]
  rw [← map, Part.decideBranches_eq]
  dsimp only
  split <;> split <;>
    exact Part.standing_of_branches (by simp only [Part.queueDrive_branches])

section
variable {p : Part} (quiet : ¬ p.monitor.state.judging)
include quiet

/-- R126: elsewhere a change of context moves the mode alone. -/
theorem Part.examineContext_quiet :
    p.examineContext.standing = p.standing ∧ p.examineContext.monitor.state = p.monitor.state := by
  by_cases same : p.contextNow = p.monitor.context
  · rw [Part.examineContext_same same]
    exact ⟨rfl, rfl⟩
  · rw [Part.examineContext_other same quiet]
    exact ⟨Part.standing_of_branches (p.intoContext_branches _),
      congrArg Outline.monitor (p.intoContext_outline p.contextNow)⟩

theorem Part.round_quiet : p.round.standing = p.standing ∧ p.round.monitor.state = p.monitor.state := by
  obtain ⟨standing, beside⟩ := p.plugWait_standing_beside
  have state : p.plugWait.monitor.state = p.monitor.state := congrArg Monitor.state (Part.monitor_of_beside beside)
  obtain ⟨examined, kept⟩ := Part.examineContext_quiet (p := p.plugWait) (state ▸ quiet)
  exact ⟨examined.trans standing, kept.trans state⟩

omit quiet in
/-- What follows the rounds keeps the monitor's state, the PART claims and the flags of every branch. -/
theorem Part.settles_quiet (p : Part) :
    let q := p.decideBranches.settleHeat.settleBudget.settleDraw
    q.standing = p.standing ∧ q.monitor.state = p.monitor.state := by
  have wired := p.decideBranches.settleHeat.settleBudget_wired.trans p.decideBranches.settleHeat_wired
  obtain ⟨-, branches, -, -, monitor⟩ := p.decideBranches.settleHeat.settleBudget.settleDraw_keeps
  have standing := (Part.standing_of_branches branches).trans (Part.standing_of_wired wired)
  have decided : p.decideBranches.monitor.state = p.monitor.state := by
    have outline := congrArg Outline.monitor p.decideBranches_outline
    exact outline
  have monitors := congrArg Wired.monitor wired
  exact ⟨standing.trans p.decideBranches_standing, (congrArg Monitor.state (monitor.trans monitors)).trans decided⟩

/-- The end of such an event keeps the monitor's state, the PART claims and the flags of every branch. -/
theorem Part.finish_quiet : p.finish.standing = p.standing ∧ p.finish.monitor.state = p.monitor.state := by
  obtain ⟨stand1, state1⟩ := Part.round_quiet quiet
  obtain ⟨stand2, state2⟩ := Part.round_quiet (p := p.round) (state1 ▸ quiet)
  obtain ⟨stand3, state3⟩ := Part.round_quiet (p := p.round.round) (state2 ▸ state1 ▸ quiet)
  obtain ⟨stand4, state4⟩ := p.round.round.round.settles_quiet
  exact ⟨stand4.trans (stand3.trans (stand2.trans stand1)), state4.trans (state3.trans (state2.trans state1))⟩

end

/-! ## RELEASE (R173) -/

/-- The tables of R173 that are absent, in its order. -/
def Part.absentTables (p : Part) : List TableId :=
  [TableId.node, .limit, .budget, .tariff, .heat, .insulation].filter fun t => (p.imageOf t).isNone

theorem Part.firstAbsent_eq (p : Part) : p.firstAbsent = p.absentTables.head? := by
  unfold Part.firstAbsent Part.absentTables Part.imageOf
  simp only [List.filter, Option.isNone_map]
  generalize p.nodes.table.isNone = node, p.session.table.isNone = limit, p.budget.table.isNone = budget,
    p.meter.tariff.isNone = tariff, p.heat.table.isNone = heat, p.monitor.table.isNone = insulation
  revert node limit budget tariff heat insulation
  decide

/-- R140: the monitor starts TRIPPED under the latch; else CHECKING at RELEASE. -/
theorem Part.startMonitor_checking (p : Part) :
    (p.startMonitor .checking).monitor.state = (if p.monitor.tripLatch then .tripped else .checking)
      ∧ (p.startMonitor .checking).standing = p.standing := by
  unfold Part.startMonitor
  split
  · exact ⟨(p.enterMonitor_state_tally _ _).1, Part.standing_of_branches (p.enterMonitor_branches _ _)⟩
  · refine ⟨p.enterChecking_monitor.1, ?_⟩
    have ends := Part.wired_of_aside (Part.endBurstsOf_aside .unmonitored
      ((p.modMonitor fun m => { m with checkCount := 0 }).enterMonitor .checking none).heat.burstOrder
      ((p.modMonitor fun m => { m with checkCount := 0 }).enterMonitor .checking none))
    exact (Part.standing_of_wired ends).trans (Part.standing_of_branches (Part.enterMonitor_branches _ _ _))

theorem Part.setPartClaims_branch (p : Part) {b : Branch} (claimed : b.partClaimed = true) (on : Bool) :
    (p.setPartClaims on).branch b = { p.branch b with claimPart := on } := by
  cases b with
  | dcInlet | converter => cases claimed
  | main | cargo | zone1 | zone2 | zone3 | zone4 => rfl

/-- R173: the part in RUN, before its claims and its monitor follow. -/
def Part.runEntered (p : Part) : Part := p.modMgmt fun m => { m with partState := .run }

/-- R173: what stands when the part has entered RUN, before the end of the event. -/
theorem Part.enterRunAtRelease_leaves (p : Part) :
    let q := p.enterRunAtRelease
    q.mgmt.partState = .run ∧ q.monitor.state = (if p.monitor.tripLatch then .tripped else .checking)
      ∧ ∀ b : Branch, b.partClaimed = true → (q.branch b).claimPart = true ∧ (q.branch b).shed = (p.branch b).shed
        ∧ (q.branch b).quarantine = (p.branch b).quarantine := by
  intro q
  obtain ⟨state, standing⟩ := (p.runEntered.setPartClaims true).startMonitor_checking
  refine ⟨Part.partState_of_outer (p := p.runEntered.setPartClaims true) (Part.startMonitor_outer _ _), state,
    fun b claimed => ?_⟩
  have same := Part.branch_of_standing (q := q) (p := p.runEntered.setPartClaims true) standing b
  rw [p.runEntered.setPartClaims_branch claimed true] at same
  exact same

theorem Part.shouldClose_of_standing {p : Part} {b : Branch} (run : p.mgmt.partState = .run)
    (untripped : p.monitor.state ≠ .tripped) (claimed : (p.branch b).claimPart = true)
    (unshed : (p.branch b).shed = false) (free : (p.branch b).quarantine = false) : p.shouldClose b = true :=
  (p.shouldClose_iff b).mpr ⟨.inl claimed, unshed, free, run, untripped⟩

/-- R173: what stands at the end of the event of a RELEASE. -/
theorem Part.released_leaves {p q r : Part} (released : p.enterRunAtRelease = q) (done : q.finish = r) :
    r.mgmt.partState = .run ∧ r.monitor.state = (if p.monitor.tripLatch then .tripped else .checking)
      ∧ (p.monitor.tripLatch = false → ∀ b : Branch, b.partClaimed = true →
        (p.branch b).shed = false → (p.branch b).quarantine = false → (r.branch b).commanded = true)
      ∧ r.drive.safeLine = (r.branch .main).commanded := by
  obtain ⟨run, state, branches⟩ := released ▸ p.enterRunAtRelease_leaves
  obtain ⟨decided, line⟩ : r.switchesDecided := done ▸ q.finish_switchesDecided
  have quiet : ¬ q.monitor.state.judging := by
    rw [state]
    cases p.monitor.tripLatch <;> simp [MonitorState.judging]
  obtain ⟨standing, kept⟩ := Part.finish_quiet quiet
  rw [done] at standing kept
  have rRun : r.mgmt.partState = .run := (done ▸ q.finish_partState).trans run
  have rState := kept.trans state
  refine ⟨rRun, rState, fun unlatched b claimed unshed free => ?_, line⟩
  obtain ⟨claim, shed, quarantine⟩ := branches b claimed
  obtain ⟨rClaim, rShed, rQuarantine⟩ := Part.branch_of_standing standing b
  refine (decided b).trans (Part.shouldClose_of_standing rRun ?_ (rClaim.trans claim)
    ((rShed.trans shed).trans unshed) ((rQuarantine.trans quarantine).trans free))
  rw [rState, unlatched]
  decide

theorem exec_release {s : State} {c : Frame} {rest : List Frame} (admits : s.part.Admits .release c rest) :
    exec .release s = s.replied c (releaseWork s.part c) :=
  State.take_replied (name := .release) nofun admits releaseWork

/-- R173: the outcome of a RELEASE with every table in force. -/
theorem exec_release_complete {s : State} {c : Frame} {rest : List Frame} (admits : s.part.Admits .release c rest)
    (still : s.part.mgmt.partState ≠ .run) (complete : s.part.absentTables = []) {r : Part}
    (done : s.part.enterRunAtRelease.finish = r) :
    exec .release s = s.answers r c rest .ok [r.monitor.state.code] := by
  have first : s.part.firstAbsent = none := s.part.firstAbsent_eq.trans (congrArg List.head? complete)
  have commands : r.mgmt.commands = s.part.mgmt.commands := by
    rw [← done, Part.finish_commands]
    exact congrArg Queues.commands s.part.enterRunAtRelease_queues
  rw [exec_release admits, releaseWork, if_neg still, first, done]
  exact State.replied_answer admits commands .ok _

/-- Settles O40: the refusals, and the part in RUN with what the monitor enters. -/
theorem releaseEntersRun : Obligations.ReleaseEntersRun := by
  intro c rest s admits p absent
  refine ⟨fun run => ?running, fun t more still lacks => ?lacking, fun still complete => ?released⟩
  case running =>
    rw [exec_release admits, releaseWork, if_pos run]
    exact State.replied_refuse admits .wrongState
  case lacking =>
    have first : s.part.firstAbsent = some t := s.part.firstAbsent_eq.trans (congrArg List.head? lacks)
    rw [exec_release admits, releaseWork, if_neg still, first]
    exact State.replied_answer admits rfl .tableInvalid _
  case released =>
    intro q r
    have done : s.part.enterRunAtRelease.finish = r := rfl
    obtain ⟨run, state, closed, line⟩ := Part.released_leaves rfl done
    refine ⟨exec_release_complete admits still complete done, run, state, fun unlatched b dc converter => ?_, line⟩
    refine closed unlatched b ?_
    cases b with
    | dcInlet => exact absurd rfl dc
    | converter => exact absurd rfl converter
    | main | cargo | zone1 | zone2 | zone3 | zone4 => rfl

end Sys2Proof.Machine
end

section
/-! PROOFS. SLEEP (O41) and the wakes (O42). -/

namespace Sys2Proof.Machine

/-! ## SLEEP (R174) -/

theorem Part.finish_manual (p : Part) : p.finish.heat.manual = p.heat.manual := by
  have manual := congrArg Steady.manual p.finish_steady
  exact manual

/-- What the core says of the part's sleep and of its staging. -/
theorem Part.sleep_fields_of_core {p q : Part} (h : q.mgmt.core = p.mgmt.core) :
    q.mgmt.partState = p.mgmt.partState ∧ q.mgmt.wakeAt = p.mgmt.wakeAt ∧ q.mgmt.wakeReason = p.mgmt.wakeReason
      ∧ q.mgmt.staging = p.mgmt.staging := by
  have state := congrArg Management.partState h
  have interval := congrArg Management.wakeAt h
  have reason := congrArg Management.wakeReason h
  have staging := congrArg Management.staging h
  exact ⟨state, interval, reason, staging⟩

/-- R174: the Management Unit takes DORMANT and the wake interval of the code. -/
def Part.dormantFor (p : Part) (code : Nat) : Part :=
  p.modMgmt fun m => { m with
    partState := .dormant
    wakeAt := if code = 0 then none else some (p.now + 60000 * wakeMinutes code) }

/-- The part in DORMANT with its claims gone and its monitor OFF, its timers and heating still to rest. -/
def Part.unmonitored (p : Part) (code : Nat) : Part := ((p.dormantFor code).setPartClaims false).sleepMonitor

theorem Part.sleep_eq (p : Part) (code : Nat) :
    p.sleep code = (p.unmonitored code).stopTimers.endManual.restZones.demandDue := rfl

theorem Part.unmonitored_outer (p : Part) (code : Nat) : (p.unmonitored code).outer = (p.dormantFor code).outer :=
  (Part.sleepMonitor_outer _).trans (Part.setPartClaims_outer _ _)

/-- R140: SLEEP turns the monitor off; its latch stands, and so do the departures. -/
theorem Part.sleepMonitor_leaves (p : Part) :
    p.sleepMonitor.monitor.state = .off ∧ p.sleepMonitor.monitor.tripLatch = p.monitor.tripLatch
      ∧ p.sleepMonitor.heat.departures = p.heat.departures := by
  unfold Part.sleepMonitor
  obtain ⟨state, tally⟩ := Part.enterMonitor_state_tally
    (p.modMonitor fun m => { m.countersCleared with wakeState := m.state.wakesTo m.wakeState }) .off none
  obtain ⟨-, -, heat, -⟩ := Part.enterMonitor_elsewhere
    (p.modMonitor fun m => { m.countersCleared with wakeState := m.state.wakesTo m.wakeState }) .off none
  exact ⟨state, congrArg Tally.latch tally, by rw [heat]; rfl⟩

/-- R14, R103: what follows the monitor in SLEEP moves the timers of the nodes and the heating alone. -/
theorem Part.rests_leave (p : Part) :
    let q := p.stopTimers.endManual.restZones.demandDue
    q.mgmt.core = p.mgmt.core
      ∧ q.nodes = { p.nodes with runtime := p.nodes.runtime.map fun e => { e with timer := none } }
      ∧ q.monitor = p.monitor ∧ q.heat.manual = none ∧ q.heat.departures = p.heat.departures :=
  ⟨rfl, rfl, rfl, rfl, rfl⟩

/-- R174, R140, R14, R103: what stands when the part has left RUN for DORMANT, before the end of the event. -/
theorem Part.sleep_leaves (p : Part) (code : Nat) :
    let q := p.sleep code
    q.mgmt.core = (p.dormantFor code).mgmt.core
      ∧ q.nodes = { p.nodes with runtime := p.nodes.runtime.map fun e => { e with timer := none } }
      ∧ q.monitor.state = .off ∧ q.monitor.tripLatch = p.monitor.tripLatch
      ∧ q.heat.manual = none ∧ q.heat.departures = p.heat.departures := by
  intro q
  obtain ⟨core, nodes, monitor, manual, departures⟩ := (p.unmonitored code).rests_leave
  obtain ⟨state, latch, heat⟩ := ((p.dormantFor code).setPartClaims false).sleepMonitor_leaves
  have outer := p.unmonitored_outer code
  have same : (p.unmonitored code).nodes = p.nodes := congrArg Outer.nodes outer
  rw [same] at nodes
  exact ⟨core.trans (congrArg Outer.core outer), nodes, (congrArg Monitor.state monitor).trans state,
    (congrArg Monitor.tripLatch monitor).trans latch, manual, departures.trans heat⟩

/-- R21: outside RUN every branch is decided OPEN. -/
theorem Part.open_of_not_run {q : Part} (decided : q.switchesDecided) (asleep : q.mgmt.partState ≠ .run) :
    (∀ b, (q.branch b).commanded = false) ∧ q.drive.safeLine = false := by
  obtain ⟨branches, line⟩ := decided
  have opened (b : Branch) : (q.branch b).commanded = false := by
    rw [branches b, ← Bool.not_eq_true, Part.shouldClose_iff]
    exact fun ⟨_, _, _, run, _⟩ => asleep run
  exact ⟨opened, line.trans (opened .main)⟩

/-- R174: the Management Unit at the end of the event of a SLEEP. -/
theorem Part.slept_management {p q r : Part} {code : Nat} (slept : p.sleep code = q) (done : q.finish = r) :
    r.mgmt.partState = .dormant
      ∧ r.mgmt.wakeAt = (if code = 0 then none else some (p.now + 60000 * wakeMinutes code))
      ∧ r.mgmt.staging = p.mgmt.staging := by
  obtain ⟨core, -⟩ := slept ▸ p.sleep_leaves code
  have finished : r.mgmt.core = q.mgmt.core := done ▸ q.finish_core
  obtain ⟨asleep, wake, -, staging⟩ := Part.sleep_fields_of_core (finished.trans core)
  exact ⟨asleep, wake, staging⟩

/-- R174: the branches, the monitor, the nodes and the heating at the end of the event of a SLEEP. -/
theorem Part.slept_blocks {p q r : Part} {code : Nat} (slept : p.sleep code = q) (done : q.finish = r) :
    ((∀ b, (r.branch b).commanded = false) ∧ r.drive.safeLine = false)
      ∧ r.monitor.state = .off
      ∧ (∀ role, (r.nodes.runtime.get role).timer = none
        ∧ (r.nodes.runtime.get role).state = (p.nodes.runtime.get role).state)
      ∧ r.heat.manual = none ∧ r.heat.departures = p.heat.departures ∧ r.monitor.tripLatch = p.monitor.tripLatch := by
  have dormant : r.mgmt.partState = .dormant := (Part.slept_management slept done).1
  have decided : r.switchesDecided := done ▸ q.finish_switchesDecided
  obtain ⟨-, nodes, state, latch, manual, departures⟩ := slept ▸ p.sleep_leaves code
  have quiet : ¬ q.monitor.state.judging := by rw [state]; simp [MonitorState.judging]
  have off : r.monitor.state = q.monitor.state := done ▸ (Part.finish_quiet quiet).2
  have rNodes : r.nodes = q.nodes := done ▸ q.finish_nodes
  have rManual : r.heat.manual = q.heat.manual := done ▸ q.finish_manual
  have rDepartures : r.heat.departures = q.heat.departures := done ▸ q.finish_departures
  have rLatch : r.monitor.tripLatch = q.monitor.tripLatch := done ▸ q.finish_tripLatch
  refine ⟨Part.open_of_not_run decided (by rw [dormant]; decide), off.trans state, fun role => ?_,
    rManual.trans manual, rDepartures.trans departures, rLatch.trans latch⟩
  rw [rNodes, nodes]
  simp only [PerRole.get_map, and_self]

/-- R174: the outcome of SLEEP, its refusals in the order of the table. -/
theorem exec_sleep {s : State} {c : Frame} {rest : List Frame} (admits : s.part.Admits .sleep c rest) :
    let p := s.part
    let code := u8 c.payload 3
    exec .sleep s =
      if p.mgmt.partState = .held then s.answers p c rest .wrongState []
      else if 15 < code then s.answers p c rest .range []
      else if p.session.state ≠ .closed then s.answers p c rest .sessionBusy []
      else if p.heat.burstOrder ≠ [] ∨ p.locator.active = true then s.answers p c rest .wrongState []
      else s.answers (p.sleep code).finish c rest .ok
        (beBytes 1 code ++ beBytes 2 (wakeMinutes code) ++ maybeU16Zero p.firstToGo) := by
  intro p code
  have replied : exec .sleep s = s.replied c (sleepWork s.part c) :=
    State.take_replied (name := .sleep) nofun admits sleepWork
  rw [replied, sleepWork]
  simp only [apply_ite (s.replied c), State.replied_refuse admits]
  refine ite_eq_of_iff Iff.rfl <| ite_eq_of_iff Iff.rfl <| ite_eq_of_iff p.sessionOpen_iff <|
    ite_eq_of_iff (or_congr List.length_pos_iff Iff.rfl) ?_
  exact State.replied_answer (after := (p.sleep code).finish) admits
    ((Part.finish_commands _).trans (congrArg Queues.commands (p.sleep_queues code))) .ok _

/-- R174: the interval of each wake code, in minutes. -/
theorem wakeMinutes_codes :
    (List.range 16).map wakeMinutes = [0, 1, 2, 5, 10, 15, 20, 30, 45, 60, 120, 180, 240, 360, 720, 1440] := by
  decide

/-- Settles O41: the outcome, and what the end of the event leaves of the part asleep. -/
theorem sleepEntersDormant : Obligations.SleepEntersDormant := by
  refine ⟨fun c rest s admits => ?_, wakeMinutes_codes⟩
  obtain ⟨dormant, wake, staging⟩ :=
    Part.slept_management (p := s.part) (code := u8 c.payload 3) rfl rfl
  obtain ⟨⟨opened, line⟩, off, timers, manual, departures, latch⟩ :=
    Part.slept_blocks (p := s.part) (code := u8 c.payload 3) rfl rfl
  exact ⟨exec_sleep admits, dormant, wake, opened, line, off, timers, manual, departures, staging, latch⟩

/-! ## The wakes (R175) -/

/-- R175: the part in RUN with the reason of its wake, before its claims, its timers and its monitor return. -/
def Part.wokenFor (p : Part) (reason : WakeReason) : Part :=
  p.modMgmt fun m => { m with partState := .run, wakeAt := none, wakeReason := reason }

/-- R175: what a wake does to the Management Unit. -/
theorem Part.wake_core (p : Part) (reason : WakeReason) : (p.wake reason).mgmt.core = (p.wokenFor reason).mgmt.core :=
  (congrArg Outer.core
    (Part.startMonitor_outer ((p.wokenFor reason).setPartClaims true).startTimers p.monitor.wakeState)).trans
    (congrArg Outer.core ((p.wokenFor reason).setPartClaims_outer true))

theorem Part.wakeDue_of_elapsed {p : Part} {t : Nat} (dormant : p.mgmt.partState = .dormant)
    (runs : p.mgmt.wakeAt = some t) (past : t ≤ p.now) : p.wakeDue = true := by
  simp [Part.wakeDue, dormant, runs, past]

/-- R175: the outcome of WAKE. -/
theorem exec_wake {s : State} {c : Frame} {rest : List Frame} (admits : s.part.Admits .wake c rest) :
    exec .wake s =
      if s.part.mgmt.partState = .dormant then s.answers (s.part.wake .command).finish c rest .ok [1#8]
      else s.answers s.part c rest .wrongState [] := by
  have replied : exec .wake s = s.replied c (wakeWork s.part c) :=
    State.take_replied (name := .wake) nofun admits wakeWork
  rw [replied, wakeWork, apply_ite (s.replied c), State.replied_refuse admits]
  refine ite_congr rfl (fun _ => ?_) fun _ => rfl
  exact State.replied_answer (after := (s.part.wake .command).finish) admits
    ((Part.finish_commands _).trans (congrArg Queues.commands (s.part.wake_queues .command))) .ok _

theorem Part.setReading_inlet (p : Part) (x : InletReadings) :
    p.setReading (.inlet x) = { p with nodes := { p.nodes with inlet := some x } } := rfl

/-- R175, R12: an INLET sample used in DORMANT wakes the part when it shows the plug. -/
theorem Part.useSample_inlet_asleep {p : Part} (dormant : p.mgmt.partState = .dormant) (e : NodeEntry) (seq : Byte)
    (x : InletReadings) :
    let used := p.markUsed e seq
    let q : Part := { used with nodes := { used.nodes with inlet := some x } }
    let metered := (q.meterInlet e x).inletReturns x
    metered.mgmt.partState = .dormant ∧ p.useSample e seq (.inlet x) =
      if x.plugPresent then (metered.wake .plug).finish else metered.finish := by
  intro used q metered
  obtain ⟨-, state⟩ := p.markUsed_setReading_keeps e seq (.inlet x)
  have asleep : q.mgmt.partState = .dormant := state.trans dormant
  have outer : metered.outer = q.outer := by simp [metered]
  refine ⟨(Part.partState_of_outer outer).trans asleep, ?_⟩
  unfold Part.useSample
  dsimp only
  rw [Part.consume, Part.useInlet_eq, apply_ite Part.finish, Part.setReading_inlet]
  exact ite_eq_of_iff (and_iff_right asleep) rfl

/-- Settles O42: the three wakes with their reasons, each ending its event as `Part.wake` leaves the part. -/
theorem wakeAndIntervalWakePart : Obligations.WakeAndIntervalWakePart := by
  unfold Obligations.WakeAndIntervalWakePart
  intro woken
  refine ⟨fun c rest s admits => exec_wake admits, fun t s dormant runs past => ?interval,
    fun p e seq x dormant => ?sample⟩
  case interval =>
    exact State.after_when_due (fun p => (p.wake .interval).finish) (Part.wakeDue_of_elapsed dormant runs past)
  case sample =>
    intro used q metered
    obtain ⟨asleep, sample⟩ := Part.useSample_inlet_asleep dormant e seq x
    refine ⟨sample, fun plug => ?_, fun unplugged => ?_⟩
    · have woke : p.useSample e seq (.inlet x) = (metered.wake .plug).finish := sample.trans (if_pos plug)
      obtain ⟨run, -, reason, -⟩ := Part.sleep_fields_of_core ((Part.finish_core _).trans (metered.wake_core .plug))
      rw [woke]
      exact ⟨run, reason⟩
    · have slept : p.useSample e seq (.inlet x) = metered.finish :=
        sample.trans (if_neg (by rw [unplugged]; decide))
      rw [slept]
      exact (Part.finish_partState metered).trans asleep

end Sys2Proof.Machine
end

section
/-! PROOFS. The heating reset, the end of an event at rest, and the three scopes of RESET (O48). -/

namespace Sys2Proof.Machine

/-! ## What a drive, a notice and an ending leave alone -/

/-- Everything but the heating, the drive queue and the notices. -/
def Part.besideHeat (p : Part) : Part :=
  { p with drive := { p.drive with queue := [] }, heat := Heating.initial, mgmt := p.mgmt.core }

theorem Part.raise_besideHeat (p : Part) (b : NoticeBody) : (p.raise b).besideHeat = p.besideHeat :=
  congrArg (fun m : Management => { p.besideHeat with mgmt := m }) (p.raise_core b)

theorem Part.queueDrive_besideHeat (p : Part) (d : Drive) : (p.queueDrive d).besideHeat = p.besideHeat := by
  unfold Part.queueDrive
  split <;> rfl

theorem Part.modHeat_besideHeat (p : Part) (f : Heating → Heating) : (p.modHeat f).besideHeat = p.besideHeat := rfl

theorem Part.endBurst_besideHeat (p : Part) (e : Ending) (z : Zone) : (p.endBurst e z).besideHeat = p.besideHeat := by
  by_cases burst : (p.zone z).state = .burst
  · unfold Part.endBurst
    rw [if_pos burst, Part.raise_besideHeat, Part.queueHeatSet, Part.queueDrive_besideHeat,
      Part.modHeat_besideHeat, Part.modZone, Part.modHeat_besideHeat]
  · rw [Part.endBurst_of_idle burst]

theorem Part.endBurstsOf_besideHeat (e : Ending) (zs : List Zone) (p : Part) :
    (Part.endBurstsOf e zs p).besideHeat = p.besideHeat := by
  induction zs generalizing p with
  | nil => rfl
  | cons z zs ih => rw [Part.endBurstsOf, ih, Part.endBurst_besideHeat]

theorem Part.branch_now_of_besideHeat {p q : Part} (h : q.besideHeat = p.besideHeat) :
    (∀ b, q.branch b = p.branch b) ∧ q.now = p.now := by
  have branches := congrArg (fun r : Part => r.drive.branches) h
  have now := congrArg Part.now h
  exact ⟨fun b => congrArg (fun m : PerBranch BranchEntry => m.get b) branches, now⟩

/-! ## Several endings (R107) -/

/-- An ending leaves the context in which another zone's burst would end. -/
theorem Part.endBurst_endedContext {p : Part} (e : Ending) {y z : Zone} (other : y ≠ z) :
    (p.endBurst e z).endedContext e y = p.endedContext e y := by
  obtain ⟨branch, now⟩ := Part.branch_now_of_besideHeat (p.endBurst_besideHeat e z)
  have zone := p.endBurst_other e other
  have table : (p.endBurst e z).heat.table = p.heat.table := congrArg Aims.table (p.endBurst_aims e z)
  unfold Part.endedContext Part.stateAfter Part.restMs Part.zoneRecord
  rw [zone, now, branch, table]

/-- R107: of the zones given, each one in BURST ends; every other zone stays as it is. -/
theorem Part.endBurstsOf_zone (e : Ending) (zs : List Zone) (p : Part) (y : Zone) :
    (Part.endBurstsOf e zs p).zone y =
      if y ∈ zs ∧ (p.zone y).state = .burst then p.endedContext e y else p.zone y := by
  by_cases burst : (p.zone y).state = .burst
  · induction zs generalizing p with
    | nil => rfl
    | cons z zs ih =>
      by_cases here : y = z
      · subst here
        have zone := Part.endBurst_zone burst e
        have left : ((p.endBurst e y).zone y).state ≠ .burst := (Part.endBurst_same burst).1
        rw [Part.endBurstsOf, Part.endBurstsOf_idle e zs _ left, zone, if_pos ⟨List.mem_cons_self, burst⟩]
      · have zone := p.endBurst_other e here
        rw [Part.endBurstsOf, ih _ (zone ▸ burst), zone, Part.endBurst_endedContext e here]
        simp only [List.mem_cons, here, false_or]
  · rw [Part.endBurstsOf_idle e zs p burst, if_neg (fun ends => burst ends.2)]

/-- R107: a zone whose burst ends leaves the burst order once. -/
theorem Part.endBurstsOf_count (e : Ending) (zs : List Zone) (p : Part) (y : Zone) :
    (Part.endBurstsOf e zs p).heat.burstOrder.count y =
      p.heat.burstOrder.count y - if y ∈ zs ∧ (p.zone y).state = .burst then 1 else 0 := by
  induction zs generalizing p with
  | nil => simp [Part.endBurstsOf]
  | cons z zs ih =>
    rw [Part.endBurstsOf, ih]
    by_cases burst : (p.zone z).state = .burst
    · rw [Part.endBurst_heat burst]
      by_cases here : y = z
      · subst here
        have left : ((p.endBurst e y).zone y).state ≠ .burst := (Part.endBurst_same burst).1
        simp [left, burst, List.count_erase_self]
      · rw [p.endBurst_other e here, List.count_erase_of_ne here]
        simp only [List.mem_cons, here, false_or]
    · rw [Part.endBurst_of_idle burst]
      by_cases here : y = z
      · subst here
        simp [burst]
      · simp only [List.mem_cons, here, false_or]

/-! ## The heating reset (R123) -/

/-- R123: a zone's burst ends by the heating reset. -/
def Part.endsByReset (p : Part) (z : Zone) : Bool := p.heat.burstOrder.contains z && (p.zone z).state == .burst

/-- R123: heat-on commanded as the heating reset leaves it. -/
def Part.heatOnAfterReset (p : Part) (z : Zone) : Bool := (p.zone z).heatOn && !p.endsByReset z

theorem Part.endsByReset_iff (p : Part) (z : Zone) :
    p.endsByReset z = true ↔ z ∈ p.heat.burstOrder ∧ (p.zone z).state = .burst := by
  simp [Part.endsByReset]

/-- R123: a zone's context as the heating reset leaves it, but for its effective target. -/
def Part.contextAfterReset (p : Part) (z : Zone) : ZoneContext :=
  (if p.endsByReset z then p.endedContext .reset z else p.zone z).afterReset (p.branch z.branch).quarantine

theorem PerZone.get_build {α : Type} (f : Zone → α) (z : Zone) : (PerZone.build f).get z = f z := by
  cases z <;> rfl

/-- R123: the part with every burst ended, its zones cleared, its wait list empty and its manual source gone. -/
def Part.zonesCleared (p : Part) : Part :=
  (p.endBursts .reset).modHeat fun h => { h with
    zones := PerZone.build p.contextAfterReset
    waitList := []
    manual := none }

theorem Part.endBursts_reset_zone (p : Part) (z : Zone) :
    (p.endBursts .reset).zone z = if p.endsByReset z then p.endedContext .reset z else p.zone z := by
  rw [Part.endBursts, Part.endBurstsOf_zone]
  simp only [Part.endsByReset_iff]

theorem Part.resetHeating_eq (p : Part) :
    p.resetHeating = p.zonesCleared.queueHeatSet.recomputeDue.placePreheat.setTargets := by
  obtain ⟨branch, -⟩ := Part.branch_now_of_besideHeat (p.endBurstsOf_besideHeat .reset p.heat.burstOrder)
  have context : p.contextAfterReset = fun z =>
      ((p.endBursts .reset).zone z).afterReset ((p.endBursts .reset).branch z.branch).quarantine := by
    funext z
    rw [Part.endBursts_reset_zone, Part.endBursts, branch]
    rfl
  unfold Part.zonesCleared
  rw [context]
  rfl

theorem Part.zonesCleared_besideHeat (p : Part) : p.zonesCleared.besideHeat = p.besideHeat :=
  p.endBurstsOf_besideHeat .reset p.heat.burstOrder

/-- R123: beyond the heating and the drives, the reset asks for a recompute. -/
theorem Part.resetHeating_besideHeat (p : Part) : p.resetHeating.besideHeat = p.recomputeDue.besideHeat := by
  have queued := (p.zonesCleared.queueDrive_besideHeat (.heatSet (p.zonesCleared.heat.zones.map (·.heatOn)))).trans
    p.zonesCleared_besideHeat
  rw [Part.resetHeating_eq]
  exact congrArg Part.recomputeDue queued

theorem Part.zonesCleared_heat (p : Part) : p.zonesCleared.heat = { p.heat with
    zones := PerZone.build p.contextAfterReset
    waitList := []
    burstOrder := (p.endBursts .reset).heat.burstOrder
    manual := none } := by
  have aims := Part.endBurstsOf_aims .reset p.heat.burstOrder p
  have table := congrArg Aims.table aims
  have preheat := congrArg Aims.preheat aims
  have departures := congrArg Aims.departures aims
  have due := congrArg Aims.demandDue aims
  simp only [Part.aims] at table preheat departures due
  simp only [Part.zonesCleared, Part.modHeat_heat, Part.endBursts, table, preheat, departures, due]

/-- R123: the zones, with the targets that follow. -/
theorem Part.resetHeating_zone (p : Part) (z : Zone) : ∃ target,
    p.resetHeating.zone z = { p.contextAfterReset z with effectiveTarget := target } := by
  have zone : p.zonesCleared.queueHeatSet.recomputeDue.placePreheat.heat.zones = PerZone.build p.contextAfterReset := by
    show p.zonesCleared.queueHeatSet.heat.zones = _
    rw [Part.queueHeatSet, Part.queueDrive_heat, Part.zonesCleared_heat]
  refine ⟨p.zonesCleared.queueHeatSet.recomputeDue.placePreheat.targetNow z, ?_⟩
  rw [Part.resetHeating_eq]
  unfold Part.setTargets Part.zone
  rw [Part.modHeat_heat, zone]
  cases z <;> rfl

/-- R123: what else the reset leaves of the heating. -/
theorem Part.resetHeating_sources (p : Part) :
    p.resetHeating.heat.manual = none ∧ p.resetHeating.heat.waitList = []
      ∧ p.resetHeating.heat.departures = p.heat.departures ∧ p.resetHeating.heat.demandDue = p.heat.demandDue
      ∧ p.resetHeating.heat.burstOrder = (p.endBursts .reset).heat.burstOrder := by
  have heat : p.zonesCleared.queueHeatSet.heat = p.zonesCleared.heat := Part.queueDrive_heat _ _
  rw [Part.zonesCleared_heat] at heat
  have manual := congrArg Heating.manual heat
  have waitList := congrArg Heating.waitList heat
  have departures := congrArg Heating.departures heat
  have due := congrArg Heating.demandDue heat
  have order := congrArg Heating.burstOrder heat
  rw [Part.resetHeating_eq]
  exact ⟨manual, waitList, departures, due, order⟩

theorem Part.resetHeating_table (p : Part) : p.resetHeating.heat.table = p.heat.table := by
  have heat : p.zonesCleared.queueHeatSet.heat = p.zonesCleared.heat := Part.queueDrive_heat _ _
  rw [Part.zonesCleared_heat] at heat
  have table := congrArg Heating.table heat
  rw [Part.resetHeating_eq]
  exact table

theorem Part.contextAfterReset_state (p : Part) (z : Zone) : (p.contextAfterReset z).state =
    if (p.branch z.branch).quarantine then .quarantined else .off := rfl

theorem Part.contextAfterReset_of_ends {p : Part} {z : Zone} (ends : p.endsByReset z = true) :
    p.contextAfterReset z = (p.endedContext .reset z).afterReset (p.branch z.branch).quarantine := by
  rw [Part.contextAfterReset, if_pos ends]

theorem Part.contextAfterReset_of_stays {p : Part} {z : Zone} (stays : p.endsByReset z = false) :
    p.contextAfterReset z = (p.zone z).afterReset (p.branch z.branch).quarantine := by
  rw [Part.contextAfterReset, stays]
  rfl

theorem Part.contextAfterReset_fields (p : Part) (z : Zone) :
    (p.contextAfterReset z).heatOn = p.heatOnAfterReset z
      ∧ (p.contextAfterReset z).lastEnding = (if p.endsByReset z then some .reset else (p.zone z).lastEnding)
      ∧ (p.endsByReset z = true → (p.contextAfterReset z).elementPower = none ∧ (p.contextAfterReset z).extensions = 0
        ∧ (p.contextAfterReset z).change = some ⟨false, p.now + 300⟩) := by
  unfold Part.heatOnAfterReset
  cases ends : p.endsByReset z with
  | true =>
    rw [Part.contextAfterReset_of_ends ends, Bool.not_true, Bool.and_false]
    exact ⟨rfl, rfl, fun _ => ⟨rfl, rfl, rfl⟩⟩
  | false =>
    rw [Part.contextAfterReset_of_stays ends, Bool.not_false, Bool.and_true]
    exact ⟨rfl, rfl, nofun⟩

/-- R123: each zone that was in BURST leaves the burst order. -/
theorem Part.resetHeating_count (p : Part) (z : Zone) : p.resetHeating.heat.burstOrder.count z =
    p.heat.burstOrder.count z - if (p.zone z).state = .burst then 1 else 0 := by
  obtain ⟨-, -, -, -, order⟩ := p.resetHeating_sources
  rw [order, Part.endBursts, Part.endBurstsOf_count]
  by_cases among : z ∈ p.heat.burstOrder
  · simp only [among, true_and]
  · rw [List.count_eq_zero_of_not_mem among, Nat.zero_sub, Nat.zero_sub]

/-- The heat-on commanded that a HEAT_SET of the reset carries. -/
def Part.heatSetAfterReset (p : Part) : Drive :=
  .heatSet ⟨p.heatOnAfterReset .z1, p.heatOnAfterReset .z2, p.heatOnAfterReset .z3, p.heatOnAfterReset .z4⟩

theorem Part.resetHeating_queue {p : Part} (table : p.nodes.table ≠ none) :
    p.resetHeating.drive.queue = coalesce (p.endBursts .reset).drive.queue p.heatSetAfterReset := by
  have nodes := congrArg Part.nodes p.zonesCleared_besideHeat
  have same : p.zonesCleared.nodes = p.nodes := nodes
  have content : p.zonesCleared.heat.zones.map (fun c => c.heatOn) =
      ⟨p.heatOnAfterReset .z1, p.heatOnAfterReset .z2, p.heatOnAfterReset .z3, p.heatOnAfterReset .z4⟩ := by
    simp only [← (p.contextAfterReset_fields _).1]
    rfl
  rw [Part.resetHeating_eq]
  show p.zonesCleared.queueHeatSet.drive.queue = _
  rw [Part.queueHeatSet, Part.queueDrive_of_table (same ▸ table), content]
  rfl

/-- R24: a drive that is queued stands in the queue. -/
theorem mem_coalesce (q : List Drive) (d : Drive) : d ∈ coalesce q d := by
  unfold coalesce
  split
  · next waits =>
    obtain ⟨e, among, same⟩ := List.any_eq_true.mp waits
    exact List.mem_map.mpr ⟨e, among, if_pos same⟩
  · exact List.mem_append_right q (List.mem_singleton_self d)

/-- R123: the heating reset as the statement of the scope HEAT reads it. -/
theorem Part.resetHeating_leaves (p : Part) :
    let q := p.resetHeating
    (∀ z, (q.zone z).state = (if (p.branch z.branch).quarantine then .quarantined else .off)
        ∧ (q.zone z).demand = false ∧ (q.zone z).endTime = none ∧ (q.zone z).heatOn = p.heatOnAfterReset z
        ∧ (q.zone z).lastEnding = (if p.endsByReset z then some .reset else (p.zone z).lastEnding)
        ∧ (p.endsByReset z = true → (q.zone z).elementPower = none ∧ (q.zone z).extensions = 0
          ∧ (q.zone z).change = some ⟨false, p.now + 300⟩)
        ∧ q.heat.burstOrder.count z = p.heat.burstOrder.count z - (if (p.zone z).state = .burst then 1 else 0))
      ∧ q.heat.manual = none ∧ q.heat.waitList = [] ∧ q.budget.recomputeDue = true
      ∧ q.heat.demandDue = p.heat.demandDue
      ∧ (p.nodes.table ≠ none → p.heatSetAfterReset ∈ q.drive.queue) := by
  obtain ⟨manual, waitList, -, due, -⟩ := p.resetHeating_sources
  have budget := congrArg Part.budget p.resetHeating_besideHeat
  have recompute : p.resetHeating.budget.recomputeDue = true := congrArg Budget.recomputeDue budget
  refine ⟨fun z => ?_, manual, waitList, recompute, due, fun table => ?_⟩
  · obtain ⟨target, zone⟩ := p.resetHeating_zone z
    obtain ⟨on, ending, ended⟩ := p.contextAfterReset_fields z
    rw [zone]
    exact ⟨p.contextAfterReset_state z, rfl, rfl, on, ending, ended, p.resetHeating_count z⟩
  · rw [Part.resetHeating_queue table]
    exact mem_coalesce _ _

end Sys2Proof.Machine
end

section
/-! PROOFS. The end of an event in a part at rest: out of RUN, its session CLOSED, its branches OPEN, nothing
waiting. -/

namespace Sys2Proof.Machine

/-! ## A part at rest -/

/-- A part in which the end of an event finds nothing to move: it is not in RUN, its session is CLOSED, every branch is
OPEN, no reading is live, no zone demands or waits, and no target limit stands above 0. -/
structure Part.AtRest (p : Part) : Prop where
  asleep : p.mgmt.partState ≠ .run
  closed : p.session.state = .closed
  undrawn : p.session.drawLimit = 0
  parked : p.monitor.context = .parked
  opened : ∀ b, (p.branch b).commanded = false
  low : p.drive.safeLine = false
  unread : p.livePack = none
  converter : ∀ v, p.clamp.converter = some v → v = 0
  inlet : ∀ v, p.clamp.inlet = some v → v = 0
  undemanding : ∀ z, (p.zone z).demand = false ∧ (p.zone z).state ≠ .waiting
  unwaited : p.heat.waitList = []
  sourceless : p.budget.recomputeDue = true

theorem PerBranch.map_eq_self {α : Type} {f : α → α} {m : PerBranch α} (same : ∀ b, f (m.get b) = m.get b) :
    m.map f = m := by
  have main := same .main
  have dcInlet := same .dcInlet
  have converter := same .converter
  have cargo := same .cargo
  have zone1 := same .zone1
  have zone2 := same .zone2
  have zone3 := same .zone3
  have zone4 := same .zone4
  simp only [PerBranch.get] at main dcInlet converter cargo zone1 zone2 zone3 zone4
  rw [PerBranch.map, main, dcInlet, converter, cargo, zone1, zone2, zone3, zone4]

theorem PerZone.set_get {α : Type} (m : PerZone α) (z : Zone) : m.set z (m.get z) = m := by
  cases z <;> rfl

/-- R103: a flag that stays clear leaves the zone where it is. -/
theorem Part.setDemand_same {p : Part} {z : Zone} (clear : (p.zone z).demand = false)
    (unwaiting : (p.zone z).state ≠ .waiting) : p.setDemand z false = p := by
  have context (c : ZoneContext) (h : c.demand = false) : ({ c with demand := false } : ZoneContext) = c := by
    rw [← h]
  have kept : (p.modZone z fun c => { c with demand := false }) = p := by
    unfold Part.modZone Part.modHeat
    dsimp only
    rw [context (p.heat.zones.get z) clear, PerZone.set_get]
  unfold Part.setDemand
  rw [kept]
  cases state : (p.zone z).state with
  | waiting => exact absurd state unwaiting
  | off | rest | burst | quarantined => rfl

/-- R101: no demand arises outside RUN. -/
theorem Part.demandNow_of_not_run {p : Part} (asleep : p.mgmt.partState ≠ .run) (z : Zone) : p.demandNow z = false := by
  have run : p.inRun = false := by simp [Part.inRun, asleep]
  unfold Part.demandNow
  dsimp only
  split
  · simp [run]
  · rfl

theorem Part.evalDemand_same {p : Part} (asleep : p.mgmt.partState ≠ .run)
    (still : ∀ z, (p.zone z).demand = false ∧ (p.zone z).state ≠ .waiting) : p.evalDemand = p := by
  have same (z : Zone) : p.setDemand z false = p := Part.setDemand_same (still z).1 (still z).2
  simp only [Part.evalDemand, Part.demandNow_of_not_run asleep, same]

/-- The heating as the end of an event leaves it in a part at rest: no preheat, the targets taken again. -/
def Part.restedHeat (p : Part) : Heating :=
  { p.heat with
    preheat := none
    zones := PerZone.build fun z =>
      { p.zone z with effectiveTarget := (p.modHeat fun h => { h with preheat := none }).targetNow z }
    demandDue := false }

/-- The Budget Arbiter's figures in a part at rest: no source. -/
def Part.unsourced (p : Part) : Part :=
  p.modBudget fun b =>
    { b with source := .none, socAbove := false, available := 0, reservation := 0, overdrawn := false }

/-- The Budget Arbiter as the end of an event leaves it in a part at rest: nothing granted but asks of no power. -/
def Part.restedBudget (p : Part) : Budget :=
  { p.unsourced.budget with
    heatRequest := p.heatAsk
    chargeRequest := 0
    heatGrant := 0
    granted := (p.unsourced.grantsFor p.heatAsk 0).asks.map fun a => a.zone
    chargeGrant := 0
    basisAvailable := 0
    basisReservation := 0
    recomputeDue := false }

/-- R63, R64: nothing is granted of no free power. -/
theorem Part.grantsFor_of_no_power {p : Part} (none_ : p.budget.free = 0) (asks : List HeatAsk) :
    (p.grantsFor asks 0).heat = 0 ∧ (p.grantsFor asks 0).charge = 0 := by
  have heat := Nat.le_zero.mp (askedPower_grantHeat asks 0)
  unfold Part.grantsFor
  split
  · split
    · simp [none_, grantHeatFirst, heat]
    · simp [none_, grantChargeFirst, heat]
  · exact ⟨rfl, rfl⟩

/-- R61: with no zone in BURST or WAITING nothing is asked. -/
theorem Part.heatAsk_of_idle {p : Part} (unbursting : p.heat.burstOrder = []) (unwaiting : p.heat.waitList = []) :
    p.heatAsk = [] := by
  rw [Part.heatAsk, unbursting, unwaiting]
  rfl

theorem Part.grantsFor_of_no_ask (p : Part) (charge : Nat) : (p.grantsFor [] charge).asks = [] := by
  unfold Part.grantsFor
  split
  · split <;> rfl
  · rfl

section
variable {p : Part} (rest : p.AtRest)
include rest

theorem Part.AtRest.shouldClose (b : Branch) : p.shouldClose b = false := by
  rw [← Bool.not_eq_true, Part.shouldClose_iff]
  exact fun ⟨_, _, _, run, _⟩ => rest.asleep run

theorem Part.AtRest.round : p.round = p := by
  have waits : p.plugWait = p := p.plugWait_elsewhere (by rw [rest.closed]; decide)
  have asleep : p.inRun = false := by simp [Part.inRun, rest.asleep]
  have context : p.contextNow = .parked := by simp [Part.contextNow, Part.countsClosed, asleep]
  rw [Part.round, waits, Part.examineContext_same (context.trans rest.parked.symm)]

/-- R21: a branch that stays OPEN keeps its entry, and its node hears nothing. -/
theorem Part.AtRest.decideBranches : p.decideBranches = p := by
  have still (bs : List Branch) : ¬ p.moves bs := by
    rintro ⟨b, -, moves⟩
    exact moves ((rest.shouldClose b).trans (rest.opened b).symm)
  have entry (b : Branch) : (p.branch b).decided p.inRun p.tripped p.now = p.branch b :=
    if_pos ((rest.shouldClose b).trans (rest.opened b).symm)
  have branches : p.decidedBranches = p.drive.branches := PerBranch.map_eq_self entry
  have decided : p.withDecided = p := by
    unfold Part.withDecided
    rw [branches, rest.shouldClose, ← rest.low]
  rw [Part.decideBranches_eq]
  simp only [if_pos (p.switchSetOf_same_iff.mpr (still _)), if_pos (p.isolationSetOf_same_iff.mpr (still _)), decided]

theorem Part.AtRest.settleHeat : p.settleHeat = { p with heat := p.restedHeat } := by
  obtain ⟨moves, stays⟩ := p.settleHeat_cases
  have placed : (if p.session.state = .preheat then p.session.chargeEnable else none) = none :=
    if_neg (by rw [rest.closed]; decide)
  have aimed : ({ p with heat := p.restedHeat } : Part).evalDemand = { p with heat := p.restedHeat } := by
    refine Part.evalDemand_same rest.asleep fun z => ?_
    obtain ⟨clear, unwaiting⟩ := rest.undemanding z
    cases z <;> exact ⟨clear, unwaiting⟩
  simp only [placed] at moves stays
  by_cases due : p.heat.demandDue = true ∨ ∃ z, (p.zone z).effectiveTarget ≠
      (p.modHeat fun h => { h with preheat := none }).targetNow z
  · exact (moves due).trans aimed
  · exact stays due

theorem Part.AtRest.chargeAsk : p.chargeAsk = 0 := by
  unfold Part.chargeAsk
  rw [rest.closed]

/-- R55 to R57, R60, R68: out of RUN there is no source. -/
theorem Part.AtRest.figures : p.setFigures.checkOverdrawn = p.unsourced := by
  have source : p.sourceNow = .none := by simp [Part.sourceNow, Part.inRun, rest.asleep]
  have soc : p.socAboveNow = false := by simp [Part.socAboveNow, rest.unread]
  have available : p.availableOn .none = 0 := by
    unfold Part.availableOn
    split <;> rfl
  have figures : p.setFigures = p.modBudget fun b =>
      { b with source := .none, socAbove := false, available := 0, reservation := 0 } := by
    unfold Part.setFigures
    dsimp only
    rw [source, soc, available]
    rfl
  rw [figures]
  rfl

theorem Part.AtRest.settleBudget : p.settleBudget = { p with budget := p.restedBudget } := by
  obtain ⟨-, settled, -⟩ := p.settleBudget_cases
  rw [rest.figures] at settled
  have caused : p.unsourced.recomputeCaused p.budget = true :=
    (p.unsourced.recomputeCaused_iff p.budget).mpr (.inl rest.sourceless)
  have uncut : p.unsourced.cutBursts = p.unsourced := if_pos (Bool.or_true _)
  have asks : p.unsourced.chargeAsk = 0 := rest.chargeAsk
  obtain ⟨heat, charge⟩ := Part.grantsFor_of_no_power (p := p.unsourced) rfl p.heatAsk
  have recomputed : p.unsourced.recompute = { p with budget := p.restedBudget } := by
    rw [Part.recompute, uncut, Part.setGrants, asks]
    rw [show p.unsourced.heatAsk = p.heatAsk from rfl, heat, charge]
    rfl
  have entered : ({ p with budget := p.restedBudget } : Part).enterBursts = { p with budget := p.restedBudget } := by
    unfold Part.enterBursts
    split
    · rfl
    · rw [show ({ p with budget := p.restedBudget } : Part).heat.waitList = [] from rest.unwaited, Part.enterFrom]
  rw [recomputed, entered] at settled
  exact settled caused rfl

end

/-- R82, R18: no draw limit is set, and no target limit falls. -/
theorem Part.settleDraw_of_closed {p : Part} (closed : p.session.state = .closed) (undrawn : p.session.drawLimit = 0)
    (converter : ∀ v, p.clamp.converter = some v → v = 0) (inlet : ∀ v, p.clamp.inlet = some v → v = 0) :
    p.settleDraw = p := by
  have limit : p.drawLimitNow = p.session.drawLimit := by rw [Part.drawLimitNow, closed, undrawn]; rfl
  have session : (p.modSession fun s => { s with drawLimit := p.drawLimitNow }) = p := by
    unfold Part.modSession
    rw [limit]
  have stays (last : Option Nat) (low : ∀ v, last = some v → v = 0) (limit : Nat) :
      ¬ last.any (fun v => decide (limit < v)) = true := by
    simp only [Option.any_eq_true, decide_eq_true_eq]
    rintro ⟨v, held, falls⟩
    rw [low v held] at falls
    exact Nat.not_lt_zero _ falls
  rw [Part.settleDraw, session, Part.clampConverter_eq, if_neg (stays _ converter _), Part.clampInlet_eq,
    if_neg (stays _ inlet _)]

theorem Part.AtRest.of_heat {p : Part} (rest : p.AtRest) : ({ p with heat := p.restedHeat } : Part).AtRest where
  asleep := rest.asleep
  closed := rest.closed
  undrawn := rest.undrawn
  parked := rest.parked
  opened := rest.opened
  low := rest.low
  unread := rest.unread
  converter := rest.converter
  inlet := rest.inlet
  undemanding z := by cases z <;> exact rest.undemanding _
  unwaited := rest.unwaited
  sourceless := rest.sourceless

/-- The end of an event in a part at rest places the heating's sources and the arbiter's figures again. -/
theorem Part.AtRest.finish {p : Part} (rest : p.AtRest) : p.finish =
    { p with heat := p.restedHeat, budget := ({ p with heat := p.restedHeat } : Part).restedBudget } := by
  have draws := Part.settleDraw_of_closed
    (p := { p with heat := p.restedHeat, budget := ({ p with heat := p.restedHeat } : Part).restedBudget })
    rest.closed rest.undrawn rest.converter rest.inlet
  rw [Part.finish, rest.round, rest.round, rest.round, rest.decideBranches, rest.settleHeat, rest.of_heat.settleBudget,
    draws]

end Sys2Proof.Machine
end

section
/-! PROOFS. The stages of a PART reset (R188), each with what it leaves. -/

namespace Sys2Proof.Machine

/-! ## The session's stage (R98) -/

/-- Everything but the session, its records, the segment that they read and the notices. -/
def Part.besideSession (p : Part) : Part :=
  { p with session := Session.initial, store := RecordStore.initial, meter := { p.meter with segment := none }
           mgmt := p.mgmt.core }

theorem Part.raise_besideSession (p : Part) (b : NoticeBody) : (p.raise b).besideSession = p.besideSession :=
  congrArg (fun m : Management => { p.besideSession with mgmt := m }) (p.raise_core b)

theorem Part.closeRecord_besideSession (p : Part) : p.closeRecord.besideSession = p.besideSession := by
  unfold Part.closeRecord
  split <;> rfl

theorem Part.closeSession_besideSession (p : Part) : p.closeSession.besideSession = p.besideSession := by
  rw [Part.closeSession_eq, Part.raise_besideSession]
  exact p.closeRecord_besideSession

/-- R91, R165: a closing session leaves no OPEN record, and the CLOSED records stand. -/
theorem Part.closeSession_records (p : Part) :
    p.closeSession.store.opened = none ∧ ∀ r ∈ p.store.closed, r ∈ p.closeSession.store.closed := by
  have store : p.closeSession.store = p.closeRecord.store := rfl
  rw [store]
  cases opened : p.store.opened with
  | none =>
    rw [Part.closeRecord_of_no_record opened]
    exact ⟨opened, fun _ among => among⟩
  | some r =>
    rw [Part.closeRecord_store opened]
    exact ⟨rfl, fun _ among => List.mem_append_left _ among⟩

/-- What a session that ends keeps and leaves: nothing but its own block moves, its table stands, its records are
CLOSED ones. -/
def Part.closedAs (p q : Part) : Prop :=
  q.besideSession = p.besideSession ∧ q.session.state = .closed ∧ q.session.table = p.session.table
    ∧ (p.session.state ≠ .closed → q.store.opened = none) ∧ ∀ r ∈ p.store.closed, r ∈ q.store.closed

theorem Part.closeSession_closedAs (p : Part) : p.closedAs p.closeSession := by
  obtain ⟨opened, closed⟩ := p.closeSession_records
  have table := congrArg Session.table p.closeSession_session
  exact ⟨p.closeSession_besideSession, p.closeSession_state, table, fun _ => opened, closed⟩

/-- R98: whatever the session's state, it is CLOSED after the reset, without a tail. -/
theorem Part.resetSession_closedAs (p : Part) :
    p.closedAs p.resetSession ∧ p.resetSession.session.drawLimit = 0 := by
  refine ⟨?_, rfl⟩
  unfold Part.resetSession
  dsimp only
  split
  · exact (((p.modSession fun s => { s with cause := some .reset }).modRecord
      fun r => { r with cause := some .reset })).closeSession_closedAs
  · next stopped =>
    by_cases ending : p.session.state = .ending
    · rw [Part.cutTail, if_pos ending]
      split
      · exact (p.flagRecord fun f => { f with tailCut := true }).closeSession_closedAs
      · exact p.closeSession_closedAs
    · have closed : p.session.state = .closed := by
        cases state : p.session.state with
        | closed => rfl
        | ending => exact absurd state ending
        | plugWait | connecting | preheat | charging | suspended => exact absurd (by rw [state]; rfl) stopped
      rw [Part.cutTail_of_not_ending ending]
      exact ⟨rfl, closed, rfl, fun open_ => absurd closed open_, fun _ among => among⟩

/-! ## The Locator's stage (R158) -/

/-- R83: a cause that leaves a CLOSED session moves the set of causes alone. -/
theorem Part.removeCause_eq_of_closed {p : Part} (closed : p.session.state = .closed) (c : Suspension) :
    ∃ causes, p.removeCause c = { p with session := { p.session with causes := causes } } := by
  have stays : ¬ ((p.modSession fun s => { s with causes := s.causes.put c false }).session.state = .suspended
      && (p.modSession fun s => { s with causes := s.causes.put c false }).session.causes.isEmpty) = true := by
    simp [closed]
  by_cases has : p.session.causes.has c = true
  · rw [Part.removeCause, if_pos has]
    exact ⟨p.session.causes.put c false, if_neg stays⟩
  · rw [Part.removeCause, if_neg has]
    exact ⟨p.session.causes, rfl⟩

theorem PerBranch.set_get {α : Type} (m : PerBranch α) (b : Branch) : m.set b (m.get b) = m := by
  cases b <;> rfl

/-- R152: where no branch is shed, the branch under test has nothing to clear. -/
theorem Part.clearTestedShed_of_unshed {p : Part} (unshed : ∀ b, (p.branch b).shed = false) :
    p.clearTestedShed = p := by
  have entry (e : BranchEntry) (h : e.shed = false) : ({ e with shed := false } : BranchEntry) = e := by rw [← h]
  unfold Part.clearTestedShed
  split
  · rfl
  · next b _ =>
    unfold Part.setShed Part.modBranch Part.modDrive
    dsimp only
    rw [entry (p.drive.branches.get b) (unshed b), PerBranch.set_get]

/-- R180: a notice that is raised is marked, masked or not. -/
theorem Part.raise_marks (p : Part) (b : NoticeBody) (within : b.number < 16) :
    (p.raise b).mgmt.raised.getLsbD b.number = true := by
  have raised : (p.raise b).mgmt.raised = p.mgmt.raised ||| 1#16 <<< b.number := by
    simp only [Part.raise, Part.modMgmt_mgmt]
    split
    · rfl
    · split <;> rfl
  rw [raised, BitVec.getLsbD_or, BitVec.getLsbD_shiftLeft]
  simp [within]

/-- R158: in a part whose session is CLOSED, whose branches are not shed and whose arbiter is reset, the reset of the
Locator moves the Locator, the causes of the session and what is due. -/
theorem Part.resetLocator_of_closed {p : Part} (closed : p.session.state = .closed)
    (unshed : ∀ b, (p.branch b).shed = false) (free : p.budget.freeze = false) (caused : p.budget.recomputeDue = true) :
    ∃ (causes : SuspensionCauses) (due : Bool) (mgmt : Management),
      p.resetLocator = { p with
        locator := { p.locator with active := false, latch := false, inert := false }
        session := { p.session with causes := causes }
        heat := { p.heat with demandDue := due }
        mgmt := mgmt }
      ∧ mgmt.core = p.mgmt.core ∧ (p.locator.active = true → mgmt.raised.getLsbD 7 = true) := by
  unfold Part.resetLocator
  cases active : p.locator.active with
  | false =>
    rw [Part.abandon_of_inactive .reset active]
    refine ⟨p.session.causes, p.heat.demandDue, p.mgmt, ?_, rfl, nofun⟩
    unfold Part.modLocator
    rw [← active]
  | true =>
    rw [Part.abandon_of_active .reset active, Part.clearTestedShed_of_unshed unshed, Part.endProcedure_eq]
    obtain ⟨causes, removed⟩ := Part.removeCause_eq_of_closed
      (p := (p.modLocator fun l => { l with latch := AbandonReason.latches .reset }).resultTold (.abandoned .reset))
      closed .locate
    rw [removed]
    refine ⟨causes, true, (p.raise (.locateResult (.abandoned .reset) p.locator.before p.locator.last
      p.locator.results p.locator.recordNumber)).mgmt, ?_, p.raise_core _,
      fun _ => p.raise_marks _ (show 7 < 16 by decide)⟩
    have budget : ({ p.budget with freeze := false, recomputeDue := true } : Budget) = p.budget := by
      rw [← free, ← caused]
    show Part.mk _ _ _ _ _ _ { p.budget with freeze := false, recomputeDue := true } _ _ _ _ _ _ = _
    rw [budget]
    rfl

/-! ## The monitor's stage (R142) -/

/-- R142: the reset monitor, its mode pending change started. -/
def Part.monitorReset (p : Part) : Monitor :=
  { Monitor.initial with
    table := p.monitor.table, tripLatch := p.monitor.tripLatch, change := some ⟨.off, p.now + 300⟩ }

/-- R24: a drive moves the drive queue alone, and only with a NODE table in force. -/
theorem Part.queueDrive_eq (p : Part) (d : Drive) : p.queueDrive d = { p with
    drive := { p.drive with queue := if p.nodes.table = none then p.drive.queue else coalesce p.drive.queue d } } := by
  by_cases table : p.nodes.table = none
  · rw [if_pos table]
    exact if_neg (by simp [Part.hasNodeTable, table])
  · rw [if_neg table]
    exact Part.queueDrive_of_table table d

theorem Part.resetMonitor_eq (p : Part) : ∃ mgmt : Management,
    p.resetMonitor = { p with
      monitor := p.monitorReset
      drive := { p.drive with
        queue := if p.nodes.table = none then p.drive.queue else coalesce p.drive.queue (.injectorMode .off) }
      mgmt := mgmt }
    ∧ mgmt.core = p.mgmt.core := by
  have mode : (p.modMonitor fun m => { Monitor.initial with table := m.table, tripLatch := m.tripLatch }).queueMode =
      { p with
        monitor := p.monitorReset
        drive := { p.drive with
          queue := if p.nodes.table = none then p.drive.queue else coalesce p.drive.queue (.injectorMode .off) } } :=
    Part.queueDrive_eq _ _
  unfold Part.resetMonitor
  dsimp only
  rw [mode]
  split
  · exact ⟨p.mgmt, rfl, rfl⟩
  · exact ⟨(p.raise (.insulationState p.monitor.state .off .parked none none)).mgmt, rfl, p.raise_core _⟩

/-! ## The clamp's stage (R18) -/

/-- Everything but the last forwarded values and the drive queue. -/
def Part.besideClamp (p : Part) : Part := { p with clamp := ⟨none, none⟩, drive := { p.drive with queue := [] } }

theorem Part.queueDrive_besideClamp (p : Part) (d : Drive) : (p.queueDrive d).besideClamp = p.besideClamp := by
  rw [Part.queueDrive_eq]
  rfl

theorem Part.clampConverter_besideClamp (p : Part) : p.clampConverter.besideClamp = p.besideClamp := by
  rw [Part.clampConverter_eq]
  split
  · rw [Part.queueDrive_besideClamp]
    rfl
  · rfl

theorem Part.clampInlet_besideClamp (p : Part) : p.clampInlet.besideClamp = p.besideClamp := by
  rw [Part.clampInlet_eq]
  split
  · rw [Part.queueDrive_besideClamp]
    rfl
  · rfl

section
variable {p : Part} (undrawn : p.session.drawLimit = 0) (unread : p.livePack = none)
include undrawn unread

theorem Part.limits_of_undrawn : p.converterLimit = 0 ∧ p.inletLimit = 0 :=
  ⟨by rw [Part.converterLimit, undrawn]; rfl, by rw [Part.inletLimit, unread]⟩

/-- R18: with no draw limit no target stands above 0. -/
theorem Part.clamped_low : (∀ v, p.clampConverter.clampInlet.clamp.converter = some v → v = 0)
    ∧ ∀ v, p.clampConverter.clampInlet.clamp.inlet = some v → v = 0 := by
  obtain ⟨noPower, noCurrent⟩ := Part.limits_of_undrawn undrawn unread
  obtain ⟨limits, -, -, -, -, -, power⟩ := p.clampConverter_leaves
  obtain ⟨-, -, -, -, -, kept, current⟩ := p.clampConverter.clampInlet_leaves
  rw [Part.inletLimit_of_limitsFrom limits, noCurrent] at current
  rw [noPower] at power
  refine ⟨fun v held => Nat.le_zero.mp (power v ?_), fun v held => Nat.le_zero.mp (current v held)⟩
  rw [← kept]
  exact held

end

/-- R18, log 41: the clamp drives of a reset, the CONVERTER's before the INLET's. -/
def Part.clampDrives (p : Part) : List Drive :=
  (if p.clamp.converter.any fun v => decide (0 < v) then [.setpoint 0] else [])
    ++ (if p.clamp.inlet.any fun v => decide (0 < v) then [.currentRequest 0] else [])

/-- A drive joins a queue in which none of its function waits. -/
theorem Part.queueDrive_queue_of_fresh {p : Part} (table : p.nodes.table ≠ none) {d : Drive}
    (fresh : ∀ e ∈ p.drive.queue, e.sameFunction d = false) : (p.queueDrive d).drive.queue = p.drive.queue ++ [d] := by
  rw [Part.queueDrive_of_table table, coalesce_of_fresh fresh]

theorem Part.queueDrive_queue_of_no_table {p : Part} (absent : p.nodes.table = none) (d : Drive) :
    (p.queueDrive d).drive.queue = p.drive.queue := by
  rw [Part.queueDrive_eq, if_pos absent]

theorem Part.clamped_queue_of_no_table {p : Part} (absent : p.nodes.table = none) :
    p.clampConverter.clampInlet.drive.queue = p.drive.queue := by
  have converter : p.clampConverter.drive.queue = p.drive.queue := by
    rw [Part.clampConverter_eq]
    split
    · exact Part.queueDrive_queue_of_no_table
        (p := p.modClamp fun c => { c with converter := some p.converterLimit }) absent _
    · rfl
  have nodes := congrArg Part.nodes p.clampConverter_besideClamp
  have same : p.clampConverter.nodes = p.nodes := nodes
  rw [Part.clampInlet_eq, ← converter]
  split
  · exact Part.queueDrive_queue_of_no_table
      (p := p.clampConverter.modClamp fun c => { c with inlet := some p.clampConverter.inletLimit }) (same ▸ absent) _
  · rfl

section
variable {p : Part} (undrawn : p.session.drawLimit = 0) (unread : p.livePack = none)
include undrawn unread

theorem Part.clamped_queue_of_table (table : p.nodes.table ≠ none)
    (noPower : ∀ e ∈ p.drive.queue, e.sameFunction (.setpoint 0) = false)
    (noCurrent : ∀ e ∈ p.drive.queue, e.sameFunction (.currentRequest 0) = false) :
    p.clampConverter.clampInlet.drive.queue = p.drive.queue ++ p.clampDrives := by
  obtain ⟨power, current⟩ := Part.limits_of_undrawn undrawn unread
  obtain ⟨limits, -, -, -, -, kept, -⟩ := p.clampConverter_leaves
  have nodes := congrArg Part.nodes p.clampConverter_besideClamp
  have same : p.clampConverter.nodes = p.nodes := nodes
  have converter : p.clampConverter.drive.queue =
      p.drive.queue ++ if p.clamp.converter.any fun v => decide (0 < v) then [.setpoint 0] else [] := by
    rw [Part.clampConverter_eq, power]
    split
    · exact Part.queueDrive_queue_of_fresh (p := p.modClamp fun c => { c with converter := some 0 }) table noPower
    · exact (List.append_nil _).symm
  rw [Part.clampInlet_eq, Part.inletLimit_of_limitsFrom limits, current, kept, Part.clampDrives, ← List.append_assoc,
    ← converter]
  split
  · refine Part.queueDrive_queue_of_fresh (same ▸ table) fun e among => ?_
    change e ∈ p.clampConverter.drive.queue at among
    rw [converter, List.mem_append] at among
    rcases among with before | drive
    · exact noCurrent e before
    · split at drive
      · rw [List.mem_singleton.mp drive]
        rfl
      · cases drive
  · exact (List.append_nil _).symm

end

/-! ## The heating's drives (R123) -/

/-- The drive queue is some front, with at most a HEAT_SET behind it. -/
def Part.heatsBehind (p : Part) (front : List Drive) : Prop :=
  p.drive.queue = front ∨ (p.nodes.table ≠ none ∧ ∃ m, p.drive.queue = front ++ [.heatSet m])

/-- R24: behind such a front a new HEAT_SET takes the place of the one that waits. -/
theorem coalesce_heatSet {front q : List Drive} {m : PerZone Bool}
    (fresh : ∀ e ∈ front, e.sameFunction (.heatSet m) = false) (shape : q = front ∨ ∃ n, q = front ++ [.heatSet n]) : coalesce q (.heatSet m) = front ++ [.heatSet m] := by
  rcases shape with rfl | ⟨n, rfl⟩
  · exact coalesce_of_fresh fresh
  · have keeps : front.map (fun e => if e.sameFunction (.heatSet m) then .heatSet m else e) = front :=
      (List.map_congr_left fun e among => if_neg (by rw [fresh e among]; decide)).trans front.map_id
    have waits : (front ++ [Drive.heatSet n]).any (fun e => e.sameFunction (.heatSet m)) = true :=
      List.any_eq_true.mpr ⟨.heatSet n, List.mem_append_right _ (List.mem_singleton_self _), rfl⟩
    rw [coalesce, if_pos waits, List.map_append, keeps]
    rfl

section
variable {front : List Drive} (fresh : ∀ e ∈ front, ∀ m, e.sameFunction (.heatSet m) = false)
include fresh

theorem Part.endBurst_heatsBehind {p : Part} (behind : p.heatsBehind front) (e : Ending) (z : Zone) :
    (p.endBurst e z).heatsBehind front := by
  have queued (q : Part) (held : q.heatsBehind front) : q.queueHeatSet.heatsBehind front := by
    rw [Part.queueHeatSet, Part.queueDrive_eq]
    by_cases table : q.nodes.table = none
    · rw [if_pos table]
      exact held
    · rw [if_neg table]
      exact .inr ⟨table, _, coalesce_heatSet (fun e among => fresh e among _) (held.imp_right And.right)⟩
  by_cases burst : (p.zone z).state = .burst
  · unfold Part.endBurst
    rw [if_pos burst]
    exact queued _ behind
  · rw [Part.endBurst_of_idle burst]
    exact behind

theorem Part.endBurstsOf_heatsBehind (e : Ending) (zs : List Zone) {p : Part} (behind : p.heatsBehind front) :
    (Part.endBurstsOf e zs p).heatsBehind front := by
  induction zs generalizing p with
  | nil => exact behind
  | cons z zs ih => exact ih (Part.endBurst_heatsBehind fresh behind e z)

/-- R123: the one HEAT_SET that the heating reset leaves behind the drives that wait. -/
theorem Part.resetHeating_queue_behind {p : Part} (queue : p.drive.queue = front) :
    p.resetHeating.drive.queue = if p.nodes.table = none then front else front ++ [p.heatSetAfterReset] := by
  have behind := Part.endBurstsOf_heatsBehind fresh .reset p.heat.burstOrder (.inl queue)
  have nodes := congrArg Part.nodes (p.endBurstsOf_besideHeat .reset p.heat.burstOrder)
  have same : (p.endBursts .reset).nodes = p.nodes := nodes
  split
  · next absent =>
    have cleared := congrArg Part.nodes p.zonesCleared_besideHeat
    have kept : p.zonesCleared.nodes = p.nodes := cleared
    rw [Part.resetHeating_eq]
    show p.zonesCleared.queueHeatSet.drive.queue = front
    rw [Part.queueHeatSet, Part.queueDrive_queue_of_no_table (kept ▸ absent)]
    exact behind.resolve_right fun ⟨table, _⟩ => table (same ▸ absent)
  · next table =>
    rw [Part.resetHeating_queue table]
    exact coalesce_heatSet (fun e among => fresh e among _) (behind.imp_right And.right)

end

end Sys2Proof.Machine
end

section
/-! PROOFS. RESET by its scopes (O48). -/

namespace Sys2Proof.Machine

/-! ## The stages of a PART reset in order (R188) -/

/-- R188: the traffic, the staging and the part state of a PART reset. -/
def Part.resetBegun (p : Part) : Part :=
  ((p.clearTraffic.modMgmt fun m => { m with raised := 0#16 }).endStaging).modMgmt
    fun m => { m with partState := .held, wakeReason := .none, wakeAt := none }

/-- The session, the meter, the nodes and the drives reset. -/
def Part.blocksReset (p : Part) : Part := p.resetBegun.resetSession.resetMetering.resetNodes.resetDrives

/-- The clamp's drives queued, and the arbiter reset. -/
def Part.powerReset (p : Part) : Part := p.blocksReset.clampConverter.clampInlet.resetBudget

/-- Every block reset, before the end of the event. -/
def Part.everyBlockReset (p : Part) : Part := p.powerReset.resetHeatingPart.resetMonitor.resetLocator

theorem Part.resetPart_eq (p : Part) : p.resetPart = p.everyBlockReset.finish := rfl

/-! ## The drives and the meter (R33, 3.8) -/

/-- R33: when a reset branch must have reported OPEN, with a NODE table in force. -/
def Part.openDeadline (p : Part) : Option Nat := if p.nodes.table = none then none else some (p.now + 300)

/-- R33: the drives that open every branch, with a NODE table in force. -/
def Part.openDrives (p : Part) : List Drive :=
  if p.nodes.table = none then [] else [.switchSet false false false false, .isolationSet ⟨false, false, false, false⟩]

theorem Part.resetDrives_eq (p : Part) : p.resetDrives =
    { p with drive := ⟨p.drive.branches.map fun e => e.afterReset p.openDeadline, p.openDrives, false⟩ } := by
  have deadline : (if p.hasNodeTable = true then some (p.now + switchDeadline) else none) = p.openDeadline := by
    unfold Part.openDeadline Part.hasNodeTable
    cases p.nodes.table <;> rfl
  unfold Part.resetDrives
  dsimp only
  rw [deadline, Part.queueDrive_eq, Part.queueDrive_eq]
  unfold Part.openDrives
  by_cases table : p.nodes.table = none
  · simp [table, Part.modDrive]
  · simp [table, Part.modDrive, PerZone.fill]
    rfl

/-- 3.8: the meter as a PART reset leaves it. -/
def Part.meterReset (p : Part) : Metering :=
  { p.meter with
    inletBase := none
    heaterBase := none
    cargoBase := none
    cargoPool := 0
    heatPool := 0
    inletSeen := 0#48
    billed := 0#48
    unbilled := 0#48
    rejected := 0#48
    band := activeBand p.meter.tariff p.meter.clock
    segment := none }

/-- What the session's stage keeps, field by field. -/
theorem Part.fields_of_besideSession {p q : Part} (h : q.besideSession = p.besideSession) :
    q.now = p.now ∧ q.nodes = p.nodes ∧ q.clamp = p.clamp ∧ q.drive = p.drive ∧ q.budget = p.budget ∧ q.heat = p.heat
      ∧ q.monitor = p.monitor ∧ q.locator = p.locator ∧ q.meterReset = p.meterReset ∧ q.mgmt.core = p.mgmt.core := by
  have now := congrArg Part.now h
  have nodes := congrArg Part.nodes h
  have clamp := congrArg Part.clamp h
  have drive := congrArg Part.drive h
  have budget := congrArg Part.budget h
  have heat := congrArg Part.heat h
  have monitor := congrArg Part.monitor h
  have locator := congrArg Part.locator h
  have meter := congrArg Part.meterReset h
  have core := congrArg Part.mgmt h
  exact ⟨now, nodes, clamp, drive, budget, heat, monitor, locator, meter, core⟩

/-- The first stages of a PART reset, block by block. -/
structure Part.BlocksReset (p b : Part) : Prop where
  now : b.now = p.now
  core : b.mgmt.core = p.resetBegun.mgmt.core
  nodes : b.nodes = { NodeTable.initial with table := p.nodes.table }
  clamp : b.clamp = p.clamp
  drive : b.drive = ⟨p.drive.branches.map fun e => e.afterReset p.openDeadline, p.openDrives, false⟩
  meter : b.meter = p.meterReset
  budget : b.budget = p.budget
  closed : b.session.state = .closed
  undrawn : b.session.drawLimit = 0
  limit : b.session.table = p.session.table
  heat : b.heat = p.heat
  monitor : b.monitor = p.monitor
  locator : b.locator = p.locator
  opened : p.session.state ≠ .closed → b.store.opened = none
  records : ∀ r ∈ p.store.closed, r ∈ b.store.closed

theorem Part.blocksReset_leaves (p : Part) : p.BlocksReset p.blocksReset := by
  obtain ⟨⟨beside, closed, limit, opened, records⟩, undrawn⟩ := p.resetBegun.resetSession_closedAs
  obtain ⟨now, nodes, clamp, drive, budget, heat, monitor, locator, meter, core⟩ := Part.fields_of_besideSession beside
  unfold Part.blocksReset
  generalize p.resetBegun.resetSession = s at *
  have deadline : s.openDeadline = p.openDeadline := by
    rw [Part.openDeadline, nodes, now]
    rfl
  have drives : s.openDrives = p.openDrives := by
    rw [Part.openDrives, nodes]
    rfl
  rw [Part.resetDrives_eq]
  exact {
    now := now
    core := core
    nodes := by
      rw [show s.resetMetering.resetNodes.nodes = { NodeTable.initial with table := s.nodes.table } from rfl, nodes]
      rfl
    clamp := clamp
    drive := by
      rw [show s.resetMetering.resetNodes.openDeadline = s.openDeadline from rfl,
        show s.resetMetering.resetNodes.openDrives = s.openDrives from rfl,
        show s.resetMetering.resetNodes.drive = s.drive from rfl, deadline, drives, drive]
      rfl
    meter := meter
    budget := budget
    closed := closed
    undrawn := undrawn
    limit := limit
    heat := heat
    monitor := monitor
    locator := locator
    opened := opened
    records := records }

/-! ## The later stages -/

/-- What the stages after the drives' leave alone. -/
def Part.ledger (p : Part) : Part :=
  { p with
    clamp := ⟨none, none⟩
    drive := { p.drive with queue := [] }
    budget := Budget.initial
    session := { p.session with causes := SuspensionCauses.empty }
    heat := Heating.initial
    monitor := Monitor.initial
    locator := Locator.initial
    mgmt := p.mgmt.core }

/-- The clamp's drives move the clamp and the queue alone. -/
theorem Part.clamped_besideClamp (p : Part) : p.clampConverter.clampInlet.besideClamp = p.besideClamp :=
  (p.clampConverter.clampInlet_besideClamp).trans p.clampConverter_besideClamp

theorem Part.resetHeatingPart_besideHeat (p : Part) : p.resetHeatingPart.besideHeat = p.recomputeDue.besideHeat :=
  p.resetHeating_besideHeat

theorem Part.openDrives_fresh (p : Part) : (∀ e ∈ p.openDrives, e.sameFunction (.setpoint 0) = false)
    ∧ (∀ e ∈ p.openDrives, e.sameFunction (.currentRequest 0) = false)
    ∧ ∀ e ∈ p.openDrives, ∀ m, e.sameFunction (.heatSet m) = false := by
  unfold Part.openDrives
  split <;> simp [Drive.sameFunction]

theorem Part.clampDrives_fresh (p : Part) (e : Drive) (among : e ∈ p.clampDrives) :
    (∀ m, e.sameFunction (.heatSet m) = false) ∧ e.sameFunction (.injectorMode .off) = false := by
  have named : e = .setpoint 0 ∨ e = .currentRequest 0 := by
    unfold Part.clampDrives at among
    rcases List.mem_append.mp among with power | current
    · split at power
      · exact .inl (List.mem_singleton.mp power)
      · cases power
    · split at current
      · exact .inr (List.mem_singleton.mp current)
      · cases current
  rcases named with rfl | rfl <;> exact ⟨fun _ => rfl, rfl⟩

/-- R33, R18: the drives that wait when the clamp has told its own. -/
def Part.drivesBeforeHeat (p : Part) : List Drive := if p.nodes.table = none then [] else p.openDrives ++ p.clampDrives

theorem Part.drivesBeforeHeat_fresh (p : Part) (e : Drive) (among : e ∈ p.drivesBeforeHeat) :
    (∀ m, e.sameFunction (.heatSet m) = false) ∧ e.sameFunction (.injectorMode .off) = false := by
  unfold Part.drivesBeforeHeat at among
  split at among
  · cases among
  · next table =>
    rcases List.mem_append.mp among with open_ | clamp
    · rw [Part.openDrives, if_neg table] at open_
      have named : e = .switchSet false false false false ∨ e = .isolationSet ⟨false, false, false, false⟩ := by
        simpa using open_
      rcases named with rfl | rfl <;> exact ⟨fun _ => rfl, rfl⟩
    · exact p.clampDrives_fresh e clamp

/-- The stages up to the arbiter's: what else they leave. -/
structure Part.PowerReset (p c : Part) : Prop where
  ledger : c.ledger = p.blocksReset.ledger
  low : (∀ v, c.clamp.converter = some v → v = 0) ∧ ∀ v, c.clamp.inlet = some v → v = 0
  budget : c.budget = { Budget.initial with table := p.budget.table }
  heat : c.heat = p.heat
  monitor : c.monitor = p.monitor
  locator : c.locator = p.locator
  queue : c.drive.queue = p.drivesBeforeHeat

theorem Part.powerReset_leaves (p : Part) : p.PowerReset p.powerReset := by
  have blocks := p.blocksReset_leaves
  unfold Part.powerReset
  generalize hb : p.blocksReset = b at *
  have beside := b.clamped_besideClamp
  have ledger := congrArg Part.ledger beside
  have budget := congrArg Part.budget beside
  have heat := congrArg Part.heat beside
  have monitor := congrArg Part.monitor beside
  have locator := congrArg Part.locator beside
  have unread : b.livePack = none := by simp [Part.livePack, Part.live, blocks.nodes, NodeTable.initial]
  have low := Part.clamped_low blocks.undrawn unread
  have table : b.nodes.table = p.nodes.table := by rw [blocks.nodes]
  have waiting : b.drive.queue = p.openDrives := congrArg DriveUnit.queue blocks.drive
  have drives : b.clampDrives = p.clampDrives := by
    unfold Part.clampDrives
    rw [blocks.clamp]
  have queue : b.clampConverter.clampInlet.drive.queue = p.drivesBeforeHeat := by
    unfold Part.drivesBeforeHeat
    split
    · next absent =>
      rw [Part.clamped_queue_of_no_table (table ▸ absent), waiting, Part.openDrives, if_pos absent]
    · next present =>
      obtain ⟨noPower, noCurrent, -⟩ := p.openDrives_fresh
      rw [Part.clamped_queue_of_table blocks.undrawn unread (table ▸ present) (waiting ▸ noPower) (waiting ▸ noCurrent),
        waiting, drives]
  exact {
    ledger := by rw [hb]; exact ledger
    low := low
    budget := congrArg (fun b : Budget => { Budget.initial with table := b.table }) (budget.trans blocks.budget)
    heat := heat.trans blocks.heat
    monitor := monitor.trans blocks.monitor
    locator := locator.trans blocks.locator
    queue := queue }

/-- Every block reset, before the end of the event. -/
structure Part.EveryBlockReset (p r : Part) : Prop where
  ledger : r.ledger = p.blocksReset.ledger
  low : (∀ v, r.clamp.converter = some v → v = 0) ∧ ∀ v, r.clamp.inlet = some v → v = 0
  budget : r.budget = { Budget.initial with table := p.budget.table, recomputeDue := true }
  table : r.heat.table = p.heat.table
  sources : r.heat.manual = none ∧ r.heat.waitList = [] ∧ r.heat.departures = p.heat.departures
  order : ∀ z, r.heat.burstOrder.count z = p.heat.burstOrder.count z - if (p.zone z).state = .burst then 1 else 0
  zone : ∀ z, (r.zone z).state = (if (p.branch z.branch).quarantine then .quarantined else .off)
    ∧ (r.zone z).demand = false ∧ (r.zone z).endTime = none ∧ (r.zone z).feedback = none ∧ (r.zone z).mismatch = false
    ∧ (p.endsByReset z = true → (r.zone z).lastEnding = some .reset ∧ (r.zone z).heatOn = false)
  monitor : r.monitor = p.monitorReset
  locator : r.locator = { p.locator with active := false, latch := false, inert := false }
  queue : r.drive.queue = if p.nodes.table = none then []
    else p.openDrives ++ p.clampDrives ++ [p.heatSetAfterReset, .injectorMode .off]
  marked : p.locator.active = true → r.mgmt.raised.getLsbD 7 = true

/-- The blocks that the ledger keeps, read back. -/
theorem Part.fields_of_ledger {p q : Part} (h : q.ledger = p.ledger) :
    q.now = p.now ∧ q.nodes = p.nodes ∧ q.meter = p.meter ∧ q.store = p.store ∧ q.drive.branches = p.drive.branches
      ∧ q.drive.safeLine = p.drive.safeLine ∧ q.session.state = p.session.state
      ∧ q.session.drawLimit = p.session.drawLimit ∧ q.session.table = p.session.table ∧ q.mgmt.core = p.mgmt.core := by
  have now := congrArg Part.now h
  have nodes := congrArg Part.nodes h
  have meter := congrArg Part.meter h
  have store := congrArg Part.store h
  have branches := congrArg (fun p : Part => p.drive.branches) h
  have line := congrArg (fun p : Part => p.drive.safeLine) h
  have state := congrArg (fun p : Part => p.session.state) h
  have limit := congrArg (fun p : Part => p.session.drawLimit) h
  have table := congrArg (fun p : Part => p.session.table) h
  have core := congrArg Part.mgmt h
  exact ⟨now, nodes, meter, store, branches, line, state, limit, table, core⟩

/-- R33: a branch after the reset, by its entry before. -/
theorem Part.branch_of_map {p b : Part} {deadline : Option Nat}
    (branches : b.drive.branches = p.drive.branches.map fun e => e.afterReset deadline) (x : Branch) :
    b.branch x = (p.branch x).afterReset deadline := by
  rw [Part.branch, branches, PerBranch.get_map]
  rfl

/-- R123: the Heating Controller's stage, in a part whose arbiter and clamp are reset. -/
theorem Part.heatReset_leaves {p c : Part} (power : p.PowerReset c) :
    let h := c.resetHeatingPart
    h.ledger = p.blocksReset.ledger ∧ h.clamp = c.clamp
      ∧ h.budget = { Budget.initial with table := p.budget.table, recomputeDue := true }
      ∧ h.monitor = p.monitor ∧ h.locator = p.locator
      ∧ h.drive.queue = if p.nodes.table = none then []
        else p.openDrives ++ p.clampDrives ++ [p.heatSetAfterReset] := by
  intro h
  have beside := c.resetHeatingPart_besideHeat
  have ledger := congrArg Part.ledger beside
  have clamp := congrArg Part.clamp beside
  have budget := congrArg Part.budget beside
  have monitor := congrArg Part.monitor beside
  have locator := congrArg Part.locator beside
  obtain ⟨-, nodes, -⟩ := Part.fields_of_ledger power.ledger
  have table : c.nodes.table = p.nodes.table := by rw [nodes, p.blocksReset_leaves.nodes]
  have heatSet : c.heatSetAfterReset = p.heatSetAfterReset := by
    unfold Part.heatSetAfterReset Part.heatOnAfterReset Part.endsByReset Part.zone
    rw [power.heat]
  have queue := Part.resetHeating_queue_behind (front := p.drivesBeforeHeat)
    (fun e among => (p.drivesBeforeHeat_fresh e among).1) power.queue
  refine ⟨ledger.trans power.ledger, clamp, ?_, monitor.trans power.monitor, locator.trans power.locator,
    queue.trans ?_⟩
  · exact budget.trans (congrArg (fun b : Budget => { b with recomputeDue := true }) power.budget)
  · rw [table, heatSet]
    unfold Part.drivesBeforeHeat
    split
    · rfl
    · rfl

/-- R123: the zones after the Heating Controller's stage. -/
theorem Part.heatReset_heat {p c : Part} (power : p.PowerReset c) :
    let h := c.resetHeatingPart
    h.heat.table = p.heat.table
      ∧ (h.heat.manual = none ∧ h.heat.waitList = [] ∧ h.heat.departures = p.heat.departures)
      ∧ (∀ z, h.heat.burstOrder.count z = p.heat.burstOrder.count z - if (p.zone z).state = .burst then 1 else 0)
      ∧ ∀ z, (h.zone z).state = (if (p.branch z.branch).quarantine then .quarantined else .off)
        ∧ (h.zone z).demand = false ∧ (h.zone z).endTime = none ∧ (h.zone z).feedback = none
        ∧ (h.zone z).mismatch = false
        ∧ (p.endsByReset z = true → (h.zone z).lastEnding = some .reset ∧ (h.zone z).heatOn = false) := by
  intro h
  obtain ⟨-, -, -, -, branches, -⟩ := Part.fields_of_ledger power.ledger
  have flag (b : Branch) : (c.branch b).quarantine = (p.branch b).quarantine := by
    rw [Part.branch_of_map (p := p) (branches.trans (congrArg DriveUnit.branches p.blocksReset_leaves.drive)) b]
    rfl
  have zones (z : Zone) : c.zone z = p.zone z := by rw [Part.zone, power.heat]; rfl
  have ends (z : Zone) : c.endsByReset z = p.endsByReset z := by
    rw [Part.endsByReset, power.heat, zones]
    rfl
  obtain ⟨manual, waitList, departures, -⟩ := c.resetHeating_sources
  refine ⟨c.resetHeating_table.trans (congrArg Heating.table power.heat), ⟨manual, waitList, ?_⟩, fun z => ?_,
    fun z => ?_⟩
  · exact departures.trans (congrArg Heating.departures power.heat)
  · have count := c.resetHeating_count z
    rw [power.heat, zones] at count
    exact count
  · obtain ⟨target, zone⟩ := c.resetHeating_zone z
    obtain ⟨on, ending, -⟩ := c.contextAfterReset_fields z
    have context : h.zone z =
        { c.contextAfterReset z with effectiveTarget := target, feedback := none, mismatch := false } := by
      have mapped : h.zone z = { c.resetHeating.zone z with feedback := none, mismatch := false } :=
        PerZone.get_map _ _ z
      rw [mapped, zone]
    rw [context]
    refine ⟨?_, rfl, rfl, rfl, rfl, fun ended => ?_⟩
    · rw [← flag]
      exact c.contextAfterReset_state z
    · rw [← ends] at ended
      rw [if_pos ended] at ending
      rw [Part.heatOnAfterReset, ended, Bool.not_true, Bool.and_false] at on
      exact ⟨ending, on⟩

/-- R24: the injector's drive joins behind the HEAT_SET. -/
theorem Part.modeDrive_joins (p : Part) :
    (if p.nodes.table = none then
        (if p.nodes.table = none then [] else p.openDrives ++ p.clampDrives ++ [p.heatSetAfterReset])
      else coalesce (if p.nodes.table = none then [] else p.openDrives ++ p.clampDrives ++ [p.heatSetAfterReset])
        (.injectorMode .off)) =
      if p.nodes.table = none then []
      else p.openDrives ++ p.clampDrives ++ [p.heatSetAfterReset, .injectorMode .off] := by
  split
  · rfl
  · next present =>
    have fresh (e : Drive) (among : e ∈ p.openDrives ++ p.clampDrives ++ [p.heatSetAfterReset]) :
        e.sameFunction (.injectorMode .off) = false := by
      rcases List.mem_append.mp among with before | heat
      · refine (p.drivesBeforeHeat_fresh e ?_).2
        rw [Part.drivesBeforeHeat, if_neg present]
        exact before
      · rw [List.mem_singleton.mp heat]
        rfl
    rw [coalesce_of_fresh fresh, List.append_assoc]
    rfl

theorem Part.everyBlockReset_leaves (p : Part) : p.EveryBlockReset p.everyBlockReset := by
  have power := p.powerReset_leaves
  obtain ⟨ledger, clamp, budget, monitor, locator, queue⟩ := Part.heatReset_leaves power
  obtain ⟨table, sources, order, zone⟩ := Part.heatReset_heat power
  have blocks := p.blocksReset_leaves
  unfold Part.everyBlockReset
  generalize p.powerReset.resetHeatingPart = h at *
  obtain ⟨now, nodes, -, -, branches, -, closed, -⟩ := Part.fields_of_ledger ledger
  have hTable : h.nodes.table = p.nodes.table := by rw [nodes, blocks.nodes]
  have hNow : h.now = p.now := now.trans blocks.now
  have unshed (b : Branch) : (h.branch b).shed = false := by
    rw [Part.branch_of_map (p := p) (branches.trans (congrArg DriveUnit.branches blocks.drive)) b]
    rfl
  obtain ⟨told, monitored, monitoredCore⟩ := h.resetMonitor_eq
  rw [monitored]
  generalize hm : ({ h with
      monitor := h.monitorReset
      drive := { h.drive with
        queue := if h.nodes.table = none then h.drive.queue else coalesce h.drive.queue (.injectorMode .off) }
      mgmt := told } : Part) = m
  have mLedger : m.ledger = h.ledger := by
    rw [← hm]
    exact congrArg (fun c : Management => { h.ledger with mgmt := c }) monitoredCore
  have mBudget : m.budget = h.budget := by rw [← hm]
  have mState : m.session.state = .closed := by rw [← hm]; exact closed.trans blocks.closed
  obtain ⟨causes, due, marks, located, locatedCore, marked⟩ := Part.resetLocator_of_closed (p := m) mState
    (by rw [← hm]; exact unshed) (by rw [mBudget, budget]; rfl) (by rw [mBudget, budget])
  rw [located]
  have mQueue : m.drive.queue = if p.nodes.table = none then []
      else p.openDrives ++ p.clampDrives ++ [p.heatSetAfterReset, .injectorMode .off] := by
    rw [← hm]
    show (if h.nodes.table = none then _ else _) = _
    rw [hTable, queue]
    exact p.modeDrive_joins
  have mMonitor : m.monitor = p.monitorReset := by
    rw [← hm]
    show h.monitorReset = _
    rw [Part.monitorReset, monitor, hNow]
    rfl
  have mLocator : m.locator = p.locator := by rw [← hm]; exact locator
  exact {
    ledger := by
      refine Eq.trans ?_ (mLedger.trans ledger)
      exact congrArg (fun c : Management => { m.ledger with mgmt := c }) locatedCore
    low := by rw [show m.clamp = _ from by rw [← hm], clamp]; exact power.low
    budget := mBudget.trans budget
    table := by rw [← hm]; exact table
    sources := by rw [← hm]; exact sources
    order := by rw [← hm]; exact order
    zone := by rw [← hm]; exact zone
    monitor := mMonitor
    locator := congrArg (fun l : Locator => { l with active := false, latch := false, inert := false }) mLocator
    queue := mQueue
    marked := by rw [← mLocator]; exact marked }

/-! ## The end of the reset's event -/

theorem Part.EveryBlockReset.rest {p r : Part} (reset : p.EveryBlockReset r) : r.AtRest := by
  have blocks := p.blocksReset_leaves
  obtain ⟨-, nodes, -, -, branches, line, state, limit, -, core⟩ := Part.fields_of_ledger reset.ledger
  have held : r.mgmt.partState = .held := by
    have state := congrArg Management.partState (core.trans blocks.core)
    exact state
  have entry (b : Branch) : (r.branch b).commanded = false := by
    rw [Part.branch_of_map (p := p) (branches.trans (congrArg DriveUnit.branches blocks.drive)) b]
    rfl
  exact {
    asleep := by rw [held]; decide
    closed := state.trans blocks.closed
    undrawn := limit.trans blocks.undrawn
    parked := by rw [reset.monitor]; rfl
    opened := entry
    low := line.trans (congrArg DriveUnit.safeLine blocks.drive)
    unread := by simp [Part.livePack, Part.live, nodes, blocks.nodes, NodeTable.initial]
    converter := reset.low.1
    inlet := reset.low.2
    undemanding := fun z => by
      obtain ⟨state, demand, -⟩ := reset.zone z
      refine ⟨demand, ?_⟩
      rw [state]
      split <;> decide
    unwaited := reset.sources.2.1
    sourceless := by rw [reset.budget] }

theorem Part.restedBudget_eq (p : Part) : p.restedBudget = {
    table := p.budget.table
    source := .none, available := 0, window := p.budget.window, reservation := 0
    heatRequest := p.heatAsk, chargeRequest := 0, heatGrant := 0, granted := p.restedBudget.granted, chargeGrant := 0
    basisAvailable := 0, basisReservation := 0, socAbove := false
    freeze := p.budget.freeze, overdrawn := false, recomputeDue := false } := rfl

section
variable {p r q : Part} (reset : p.EveryBlockReset r) (done : r.finish = q)
include reset done

theorem Part.EveryBlockReset.done_eq : q = { r with
    heat := r.restedHeat, budget := ({ r with heat := r.restedHeat } : Part).restedBudget } :=
  done.symm.trans reset.rest.finish

/-- R188: the Management Unit after a PART reset. -/
theorem Part.EveryBlockReset.management : q.mgmt.partState = .held ∧ q.mgmt.commands = p.mgmt.commands.take 1
    ∧ q.mgmt.answers = [] ∧ q.mgmt.staging = none ∧ q.mgmt.mask = p.mgmt.mask ∧ q.mgmt.committed = p.mgmt.committed
    ∧ q.mgmt.outSeq = p.mgmt.outSeq ∧ (p.locator.active = true → q.mgmt.raised.getLsbD 7 = true) := by
  have mgmt : q.mgmt = r.mgmt := by rw [reset.done_eq done]
  obtain ⟨-, -, -, -, -, -, -, -, -, core⟩ := Part.fields_of_ledger reset.ledger
  have all := core.trans p.blocksReset_leaves.core
  have held := congrArg Management.partState all
  have commands := congrArg Management.commands all
  have answers := congrArg Management.answers all
  have staging := congrArg Management.staging all
  have mask := congrArg Management.mask all
  have committed := congrArg Management.committed all
  have sequence := congrArg Management.outSeq all
  rw [mgmt]
  exact ⟨held, commands, answers, staging, mask, committed, sequence, reset.marked⟩

/-- R19, R33: the Drive Unit after a PART reset. -/
theorem Part.EveryBlockReset.drives : q.drive.safeLine = false
    ∧ (∀ b, q.branch b = ⟨false, false, false, (p.branch b).quarantine, false, none,
      if p.nodes.table = none then none else some ⟨false, p.now + 300⟩, false⟩)
    ∧ q.drive.queue = if p.nodes.table = none then []
      else p.openDrives ++ p.clampDrives ++ [p.heatSetAfterReset, .injectorMode .off] := by
  have drive : q.drive = r.drive := by rw [reset.done_eq done]
  obtain ⟨-, -, -, -, branches, line, -⟩ := Part.fields_of_ledger reset.ledger
  have blocks := p.blocksReset_leaves
  rw [drive]
  refine ⟨line.trans (congrArg DriveUnit.safeLine blocks.drive), fun b => ?_, reset.queue⟩
  rw [Part.branch, drive, ← Part.branch,
    Part.branch_of_map (p := p) (branches.trans (congrArg DriveUnit.branches blocks.drive)) b]
  unfold BranchEntry.afterReset Part.openDeadline
  split <;> rfl

/-- The blocks whose reset the end of the event does not touch: nodes, meter, session, records, monitor, Locator. -/
theorem Part.EveryBlockReset.kept : q.nodes = { NodeTable.initial with table := p.nodes.table }
    ∧ q.meter = p.meterReset ∧ q.session.state = .closed ∧ q.session.drawLimit = 0 ∧ q.session.table = p.session.table
    ∧ (p.session.state ≠ .closed → q.store.opened = none) ∧ (∀ r ∈ p.store.closed, r ∈ q.store.closed)
    ∧ q.monitor = p.monitorReset ∧ q.locator = { p.locator with active := false, latch := false, inert := false } := by
  obtain ⟨-, nodes, meter, store, -, -, state, limit, table, -⟩ := Part.fields_of_ledger reset.ledger
  have blocks := p.blocksReset_leaves
  rw [reset.done_eq done]
  refine ⟨nodes.trans blocks.nodes, meter.trans blocks.meter, state.trans blocks.closed, limit.trans blocks.undrawn,
    table.trans blocks.limit, ?_, ?_, reset.monitor, reset.locator⟩
  · show p.session.state ≠ .closed → r.store.opened = none
    rw [store]
    exact blocks.opened
  · show ∀ x ∈ p.store.closed, x ∈ r.store.closed
    rw [store]
    exact blocks.records

/-- R123: the heating after a PART reset. -/
theorem Part.EveryBlockReset.heating : q.heat.table = p.heat.table ∧ q.heat.waitList = [] ∧ q.heat.manual = none
    ∧ q.heat.preheat = none ∧ q.heat.departures = p.heat.departures
    ∧ ∀ z, (q.zone z).state = (if (p.branch z.branch).quarantine then .quarantined else .off)
      ∧ (q.zone z).demand = false ∧ (q.zone z).endTime = none ∧ (q.zone z).feedback = none ∧ (q.zone z).mismatch = false
      ∧ q.heat.burstOrder.count z = p.heat.burstOrder.count z - (if (p.zone z).state = .burst then 1 else 0)
      ∧ (p.endsByReset z = true → (q.zone z).lastEnding = some .reset ∧ (q.zone z).heatOn = false) := by
  obtain ⟨manual, waitList, departures⟩ := reset.sources
  have heat : q.heat = r.restedHeat := by rw [reset.done_eq done]
  have zone (z : Zone) : ∃ target, q.zone z = { r.zone z with effectiveTarget := target } := by
    refine ⟨(r.modHeat fun h => { h with preheat := none }).targetNow z, ?_⟩
    rw [Part.zone, heat]
    exact PerZone.get_build _ z
  rw [heat]
  refine ⟨reset.table, waitList, manual, rfl, departures, fun z => ?_⟩
  obtain ⟨target, context⟩ := zone z
  obtain ⟨state, demand, end_, feedback, mismatch, ended⟩ := reset.zone z
  rw [context]
  exact ⟨state, demand, end_, feedback, mismatch, reset.order z, ended⟩

/-- R70: the Budget Arbiter after a PART reset. -/
theorem Part.EveryBlockReset.arbiter : q.budget = {
      table := p.budget.table
      source := .none, available := 0, window := [], reservation := 0
      heatRequest := q.heatAsk, chargeRequest := 0, heatGrant := 0, granted := q.budget.granted, chargeGrant := 0
      basisAvailable := 0, basisReservation := 0, socAbove := false
      freeze := false, overdrawn := false, recomputeDue := false }
    ∧ (q.heat.burstOrder = [] → q.budget.heatRequest = [] ∧ q.budget.granted = []) := by
  have whole := reset.done_eq done
  have asks : q.heatAsk = ({ r with heat := r.restedHeat } : Part).heatAsk := by rw [whole]; rfl
  have budget : q.budget = ({ r with heat := r.restedHeat } : Part).restedBudget := by rw [whole]
  have figures : ({ r with heat := r.restedHeat } : Part).budget = r.budget := rfl
  constructor
  · rw [asks, budget, Part.restedBudget_eq, figures, reset.budget]
    rfl
  · intro unbursting
    have order : r.heat.burstOrder = [] := by rw [whole] at unbursting; exact unbursting
    have empty : ({ r with heat := r.restedHeat } : Part).heatAsk = [] := Part.heatAsk_of_idle order reset.sources.2.1
    rw [budget]
    refine ⟨empty, ?_⟩
    rw [Part.restedBudget]
    dsimp only
    rw [empty, Part.grantsFor_of_no_ask]
    rfl

end

/-- The drives that wait after a PART reset, written out. -/
theorem Part.resetQueue_eq (p : Part) :
    (if p.nodes.table = none then []
      else p.openDrives ++ p.clampDrives ++ [p.heatSetAfterReset, .injectorMode .off]) =
    if p.nodes.table = none then []
      else [.switchSet false false false false, .isolationSet ⟨false, false, false, false⟩]
        ++ (if p.clamp.converter.any fun v => decide (0 < v) then [.setpoint 0] else [])
        ++ (if p.clamp.inlet.any fun v => decide (0 < v) then [.currentRequest 0] else [])
        ++ [p.heatSetAfterReset, .injectorMode .off] := by
  split
  · rfl
  · next present => rw [Part.openDrives, if_neg present, Part.clampDrives, ← List.append_assoc]

theorem Part.EveryBlockReset.images {p r q : Part} (reset : p.EveryBlockReset r) (done : r.finish = q) (t : TableId) :
    q.imageOf t = p.imageOf t := by
  obtain ⟨nodes, meter, -, -, limit, -, -, monitor, -⟩ := reset.kept done
  obtain ⟨heat, -⟩ := reset.heating done
  obtain ⟨budget, -⟩ := reset.arbiter done
  cases t with
  | node => rw [Part.imageOf, nodes]; rfl
  | limit => rw [Part.imageOf, limit]; rfl
  | budget => rw [Part.imageOf, budget]; rfl
  | tariff => rw [Part.imageOf, meter]; rfl
  | heat => rw [Part.imageOf, heat]; rfl
  | insulation => rw [Part.imageOf, monitor]; rfl

/-! ## The three scopes -/

/-- R187: the outcome of RESET LINK, and of a RESET whose scope is none of the three (log 5). -/
theorem exec_resetLink {s : State} {c : Frame} {rest : List Frame} (admits : s.part.Admits .resetLink c rest) :
    let p := s.part
    exec .resetLink s =
      if u8 c.payload 3 = 0 then s.answers
        { p with
          chain := { p.chain with fwd := [], linkError := false, linkOverrun := false }
          mgmt := { p.mgmt with commands := [c], answers := [], notices := [], noticeLost := false } }
        c [] .ok []
      else s.answers p c rest .range [] := by
  intro p
  have replied : exec .resetLink s = s.replied c (resetLinkWork s.part c) :=
    State.take_replied (name := .resetLink) nofun admits resetLinkWork
  have head : s.part.clearTraffic.mgmt.commands = [c] := congrArg (List.take 1) admits.queued
  rw [replied, resetLinkWork, apply_ite (s.replied c), State.replied_refuse admits]
  refine ite_congr rfl (fun _ => ?_) fun _ => rfl
  rw [State.replied, respond_answer head]
  rfl

/-- R188: the outcome of RESET PART. -/
theorem exec_resetPart {s : State} {c : Frame} {rest : List Frame} (admits : s.part.Admits .resetPart c rest) {q : Part}
    (done : s.part.everyBlockReset.finish = q) : exec .resetPart s = s.answers q c [] .ok [] := by
  have replied : exec .resetPart s = s.replied c (resetPartWork s.part c) :=
    State.take_replied (name := .resetPart) nofun admits resetPartWork
  obtain ⟨-, commands, -⟩ := s.part.everyBlockReset_leaves.management done
  have head : q.mgmt.commands = [c] := by rw [commands, admits.queued]; rfl
  rw [replied, resetPartWork, Part.resetPart_eq, done, State.replied, respond_answer head]
  rfl

/-- R187, R123: the outcome of RESET HEAT. -/
theorem exec_resetHeat {s : State} {c : Frame} {rest : List Frame} (admits : s.part.Admits .resetHeat c rest) :
    exec .resetHeat s = s.answers s.part.resetHeating.finish c rest .ok [] := by
  have replied : exec .resetHeat s = s.replied c (resetHeatWork s.part c) :=
    State.take_replied (name := .resetHeat) nofun admits resetHeatWork
  rw [replied, resetHeatWork]
  exact State.replied_finish admits (Part.resetHeating_outer _) .ok []

/-- Settles O48: LINK by its outcome, HEAT by the heating reset, PART block by block, the end of its event at rest. -/
theorem resetsByScope : Obligations.ResetsByScope := by
  refine ⟨fun c rest s admits => exec_resetLink admits, fun c rest s admits => ?heat, fun p => p.resetHeating_leaves,
    fun c rest s admits => ?part⟩
  case heat =>
    obtain ⟨zones, manual, waitList, -⟩ := s.part.resetHeating_leaves
    obtain ⟨-, -, departures, -⟩ := s.part.resetHeating_sources
    exact ⟨exec_resetHeat admits, manual, waitList, fun z => (zones z).2.1, departures⟩
  case part =>
    intro p q
    have reset := p.everyBlockReset_leaves
    have done : p.everyBlockReset.finish = q := rfl
    have outcome := exec_resetPart admits done
    clear_value q
    obtain ⟨held, -, answers, staging, mask, committed, sequence, marked⟩ := reset.management done
    obtain ⟨low, entry, queue⟩ := reset.drives done
    obtain ⟨nodes, meter, closed, undrawn, -, opened, records, monitor, locator⟩ := reset.kept done
    obtain ⟨-, waitList, manual, preheat, departures, zones⟩ := reset.heating done
    obtain ⟨budget, unasked⟩ := reset.arbiter done
    have branch (b : Branch) : (q.branch b).commanded = false ∧ (q.branch b).quarantine = (p.branch b).quarantine := by
      rw [entry b]
      exact ⟨rfl, rfl⟩
    have runtime (role : Role) : q.nodes.runtime.get role = ⟨.unseen, none, none, none⟩ := by
      rw [nodes]
      exact PerRole.get_fill _ role
    obtain ⟨clock, inletBase, heaterBase, cargoBase, cargoPool, heatPool, inletSeen, billed, unbilled, rejected⟩ :
        q.meter.clock = p.meter.clock ∧ q.meter.inletBase = none ∧ q.meter.heaterBase = none
          ∧ q.meter.cargoBase = none ∧ q.meter.cargoPool = 0 ∧ q.meter.heatPool = 0 ∧ q.meter.inletSeen = 0#48
          ∧ q.meter.billed = 0#48 ∧ q.meter.unbilled = 0#48 ∧ q.meter.rejected = 0#48 := by
      rw [meter]
      exact ⟨rfl, rfl, rfl, rfl, rfl, rfl, rfl, rfl, rfl, rfl⟩
    obtain ⟨inlet, pack, heater, cargo, converter, contactor, injector⟩ : q.nodes.inlet = none ∧ q.nodes.pack = none
        ∧ q.nodes.heater = none ∧ q.nodes.cargo = none ∧ q.nodes.converter = none ∧ q.nodes.contactor = none
        ∧ q.nodes.injector = none := by
      rw [nodes]
      exact ⟨rfl, rfl, rfl, rfl, rfl, rfl, rfl⟩
    obtain ⟨tripLatch, state, context, mode, latest⟩ : q.monitor.tripLatch = p.monitor.tripLatch
        ∧ q.monitor.state = .off ∧ q.monitor.context = .parked ∧ q.monitor.mode = .off ∧ q.monitor.latest = none := by
      rw [monitor]
      exact ⟨rfl, rfl, rfl, rfl, rfl⟩
    obtain ⟨active, latch, inert, faults⟩ : q.locator.active = false ∧ q.locator.latch = false
        ∧ q.locator.inert = false ∧ q.locator.faults = p.locator.faults := by
      rw [locator]
      exact ⟨rfl, rfl, rfl, rfl⟩
    refine ⟨outcome, held, answers, staging, mask, committed, sequence, branch, low, closed, undrawn, tripLatch, clock,
      reset.images done, opened, records, inletBase, heaterBase, cargoBase, cargoPool, heatPool, inletSeen, billed,
      unbilled, rejected, runtime, inlet, pack, heater, cargo, converter, contactor, injector, entry,
      queue.trans p.resetQueue_eq, budget, unasked, waitList, manual, preheat, departures, fun z => ?_, monitor, state,
      context, mode, latest, active, latch, inert, faults, marked⟩
    obtain ⟨zoneState, demand, end_, feedback, mismatch, count, ended⟩ := zones z
    exact ⟨zoneState, demand, end_, feedback, mismatch, count,
      fun among burst => ended ((p.endsByReset_iff z).mpr ⟨among, burst⟩)⟩

end Sys2Proof.Machine
end

section
/-! PROOFS. The six validations (O36): each examines the parts of its image in order. -/

namespace Sys2Proof.Machine

/-! ## Examining parts in order -/

section
variable {α β : Type} {out good : Judged α}

/-- An image with no part left to examine is good. -/
theorem judged_nil (done : out = good) : judgedInOrder [] out good :=
  ⟨fun _ _ _ _ cut => absurd cut.symm (List.append_ne_nil_of_right_ne_nil _ (List.cons_ne_nil _ _)), fun _ => done⟩

/-- The first part decides: it offends, or the rest is examined. -/
theorem judged_cons {k : Nat} {ok : Prop} {parts : List (Nat × Prop)} (offends : ¬ ok → out = .error k)
    (goes : ok → judgedInOrder parts out good) : judgedInOrder ((k, ok) :: parts) out good := by
  refine ⟨fun before j bad behind cut sound broken => ?_, fun sound => ?_⟩
  · cases before with
    | nil =>
      obtain ⟨same, -⟩ := List.cons.inj cut
      obtain ⟨rfl, rfl⟩ := Prod.mk.inj same
      exact offends broken
    | cons first before =>
      obtain ⟨same, more⟩ := List.cons.inj cut
      have holds : ok := by
        have first := sound first List.mem_cons_self
        rwa [← same] at first
      exact (goes holds).1 before j bad behind more (fun x among => sound x (List.mem_cons_of_mem _ among)) broken
  · exact (goes (sound (k, ok) List.mem_cons_self)).2 fun x among => sound x (List.mem_cons_of_mem _ among)

/-- Two examinations, one behind the other. -/
theorem judged_bind {first rest : List (Nat × Prop)} {j : Judged β} {b : β} {next : β → Judged α}
    (judged : judgedInOrder first j (.ok b)) (goes : (∀ x ∈ first, x.2) → judgedInOrder rest (next b) good) :
    judgedInOrder (first ++ rest) (j >>= next) good := by
  refine ⟨fun before k bad behind cut sound broken => ?_, fun sound => ?_⟩
  · rcases List.append_eq_append_iff.mp cut with ⟨tail, rfl, more⟩ | ⟨tail, rfl, more⟩
    · have all : ∀ x ∈ first, x.2 := fun x among => sound x (List.mem_append_left _ among)
      rw [judged.2 all]
      exact (goes all).1 tail k bad behind more (fun x among => sound x (List.mem_append_right _ among)) broken
    · cases tail with
      | nil =>
        have all : ∀ x ∈ before ++ [], x.2 := fun x among => sound x (by simpa using among)
        rw [judged.2 all]
        exact (goes all).1 [] k bad behind more.symm nofun broken
      | cons head tail =>
        obtain ⟨rfl, -⟩ := List.cons.inj more
        rw [judged.1 before k bad tail rfl sound broken]
        rfl
  · have all : ∀ x ∈ first, x.2 := fun x among => sound x (List.mem_append_left _ among)
    rw [judged.2 all]
    exact (goes all).2 fun x among => sound x (List.mem_append_right _ among)

theorem require_bind (ok : Bool) (k : Nat) (next : Unit → Judged α) :
    (require ok k >>= next) = if ok then next () else .error k := by
  cases ok <;> rfl

/-- One condition, then the rest. -/
theorem judged_require {k : Nat} {ok : Bool} {p : Prop} {parts : List (Nat × Prop)} {next : Unit → Judged α}
    (same : ok = true ↔ p) (goes : p → judgedInOrder parts (next ()) good) :
    judgedInOrder ((k, p) :: parts) (require ok k >>= next) good := by
  rw [require_bind]
  refine judged_cons (fun broken => if_neg (mt same.mp broken)) fun holds => ?_
  rw [if_pos (same.mpr holds)]
  exact goes holds

/-- A run of entries: each is examined by itself and by the one before it, and joins what the image says. -/
theorem judged_loop {entry : Nat → α} {index : Nat → Nat} {ok : Nat → Prop} {accepts : Nat → Bool}
    (same : ∀ k, accepts k = true ↔ ok k) {loop : Nat → Nat → List α → Judged (List α)}
    (ends : ∀ k acc, loop 0 k acc = .ok acc)
    (goes : ∀ n k acc, loop (n + 1) k acc =
      if accepts k then loop n (k + 1) (acc ++ [entry k]) else .error (index k)) (n k : Nat) (acc : List α) :
    judgedInOrder ((List.range' k n).map fun j => (index j, ok j)) (loop n k acc)
      (.ok (acc ++ (List.range' k n).map entry)) := by
  induction n generalizing k acc with
  | zero => exact judged_nil (by rw [ends]; simp)
  | succ n ih =>
    rw [List.range'_succ, List.map_cons, List.map_cons, goes]
    refine judged_cons (fun broken => if_neg (mt (same k).mp broken)) fun holds => ?_
    rw [if_pos ((same k).mpr holds), List.append_cons acc (entry k) ((List.range' (k + 1) n).map entry)]
    exact ih (k + 1) _

end

theorem inRangeInt_iff (low high n : Int) : inRangeInt low high n = true ↔ low ≤ n ∧ n ≤ high := by
  simp [inRangeInt]

/-- The value that the entry before entry `k` has, if there is one. -/
def priorOf {α : Type} (f : Nat → α) : Nat → Option α
  | 0 => none
  | k + 1 => some (f k)

/-- The value of entry `k` is above that of the entry before it, if there is one. -/
def rises {α : Type} [LT α] [DecidableLT α] (f : Nat → α) (k : Nat) : Bool :=
  (priorOf f k).all fun u => decide (u < f k)

theorem rises_iff {α : Type} [LT α] [DecidableLT α] (f : Nat → α) (k : Nat) :
    rises f k = true ↔ (0 < k → f (k - 1) < f k) := by
  cases k <;> simp [rises, priorOf]

/-! ## LIMIT (R71) -/

/-- R71: entry `k` of a LIMIT image is accepted. -/
def limitEntryAccepted (img : List Byte) (k : Nat) : Bool :=
  inRangeInt (-40) 70 (limitEntryAt img k).upper
    && rises (fun k => (limitEntryAt img k).upper) k
    && decide ((limitEntryAt img k).power ≤ 150000)

theorem judgeLimitFrom_judged (img : List Byte) (n : Nat) :
    judgedInOrder ((List.range n).map fun k => (k, -40 ≤ (limitEntryAt img k).upper ∧ (limitEntryAt img k).upper ≤ 70
        ∧ (0 < k → (limitEntryAt img (k - 1)).upper < (limitEntryAt img k).upper)
        ∧ (limitEntryAt img k).power ≤ 150000))
      (judgeLimitFrom img n 0 none []) (.ok ((List.range n).map (limitEntryAt img))) := by
  rw [List.range_eq_range']
  refine judged_loop (entry := limitEntryAt img) (index := id) (accepts := limitEntryAccepted img) (fun k => ?_)
    (loop := fun n k acc => judgeLimitFrom img n k (priorOf (fun k => (limitEntryAt img k).upper) k) acc)
    (fun _ _ => rfl) (fun n k acc => ?_) n 0 []
  · rw [limitEntryAccepted, Bool.and_eq_true, Bool.and_eq_true, inRangeInt_iff, rises_iff, decide_eq_true_eq]
    simp only [and_assoc]
  · cases k <;> rfl

/-- R71: the examination of a LIMIT image as a chain. -/
theorem judgeLimit_eq (img : List Byte) : judgeLimit img =
    (require (inRange 1 60 (u8 img 0) && inRange 50 100 (u8 img 1) && inRange 1 12 (u8 img 2)) 0 >>= fun _ =>
      judgeLimitFrom img (u8 img 2) 0 none [] >>= fun entries =>
        require (entries.any fun e => decide (0 < e.power)) (u8 img 2 - 1) >>= fun _ =>
          .ok ⟨u8 img 0, u8 img 1, entries⟩) := by
  unfold judgeLimit
  rw [require_bind]
  refine ite_congr rfl (fun _ => ?_) fun _ => rfl
  cases judgeLimitFrom img (u8 img 2) 0 none [] with
  | error k => rfl
  | ok entries =>
    exact (require_bind (entries.any fun e => decide (0 < e.power)) (u8 img 2 - 1)
      fun _ => .ok (LimitTable.mk (u8 img 0) (u8 img 1) entries)).symm

theorem judgeLimit_judged (img : List Byte) :
    let n := u8 img 2
    let upper (k : Nat) : Int := i8 img (3 + 4 * k)
    let power (k : Nat) : Nat := u24 img (4 + 4 * k)
    let header : Prop := 1 ≤ u8 img 0 ∧ u8 img 0 ≤ 60 ∧ 50 ≤ u8 img 1 ∧ u8 img 1 ≤ 100 ∧ 1 ≤ n ∧ n ≤ 12
    let entryOk (k : Nat) : Prop := -40 ≤ upper k ∧ upper k ≤ 70 ∧ (0 < k → upper (k - 1) < upper k)
      ∧ power k ≤ 150000
    judgedInOrder
      ((0, header) :: (((List.range n).map fun k => (k, entryOk k)) ++ [(n - 1, ∃ k, k < n ∧ 0 < power k)]))
      (judgeLimit img)
      (.ok ⟨u8 img 0, u8 img 1, (List.range n).map fun k => ⟨upper k, power k⟩⟩) := by
  intro n upper power header entryOk
  rw [judgeLimit_eq]
  refine judged_require (by simp only [Bool.and_eq_true, inRange_iff, header, and_assoc]; rfl) fun _ => ?_
  refine judged_bind (judgeLimitFrom_judged img n) fun _ => ?_
  refine judged_require ?_ fun _ => judged_nil rfl
  simp only [List.any_eq_true, List.mem_map, List.mem_range, decide_eq_true_eq]
  constructor
  · rintro ⟨e, ⟨k, within, rfl⟩, powered⟩
    exact ⟨k, within, powered⟩
  · rintro ⟨k, within, powered⟩
    exact ⟨_, ⟨k, within, rfl⟩, powered⟩

/-! ## BUDGET (R58) -/

theorem judgeBudget_judged (img : List Byte) : judgedInOrder
    [(0, u16 img 0 ≤ 5000), (1, 800 ≤ u16 img 2 ∧ u16 img 2 ≤ 1000), (2, u8 img 4 ≤ 1),
      (3, u16 img 5 ≤ 50000), (4, u16 img 7 ≤ 12000), (5, 10 ≤ u8 img 9 ∧ u8 img 9 ≤ 90),
      (6, u16 img 10 ≤ 2000), (7, 100 ≤ u16 img 12 ∧ u16 img 12 ≤ 5000)]
    (judgeBudget img)
    (.ok ⟨u16 img 0, u16 img 2, if u8 img 4 = 0 then .heatFirst else .chargeFirst, u16 img 5, u16 img 7,
      u8 img 9, u16 img 10, u16 img 12⟩) := by
  unfold judgeBudget
  exact judged_require decide_eq_true_iff fun _ => judged_require (inRange_iff _ _ _) fun _ =>
    judged_require decide_eq_true_iff fun _ => judged_require decide_eq_true_iff fun _ =>
    judged_require decide_eq_true_iff fun _ => judged_require (inRange_iff _ _ _) fun _ =>
    judged_require decide_eq_true_iff fun _ => judged_require (inRange_iff _ _ _) fun _ => judged_nil rfl

/-! ## TARIFF (R47) -/

/-- R47: band `k` of a TARIFF image is accepted. -/
def tariffBandAccepted (img : List Byte) (k : Nat) : Bool :=
  decide ((tariffBandAt img k).start ≤ 10079)
    && rises (fun k => (tariffBandAt img k).start) k

theorem judgeTariffFrom_judged (img : List Byte) (n : Nat) :
    judgedInOrder ((List.range n).map fun k => (k, (tariffBandAt img k).start ≤ 10079
        ∧ (0 < k → (tariffBandAt img (k - 1)).start < (tariffBandAt img k).start)))
      (judgeTariffFrom img n 0 none []) (.ok ((List.range n).map (tariffBandAt img))) := by
  rw [List.range_eq_range']
  refine judged_loop (entry := tariffBandAt img) (index := id) (accepts := tariffBandAccepted img) (fun k => ?_)
    (loop := fun n k acc => judgeTariffFrom img n k (priorOf (fun k => (tariffBandAt img k).start) k) acc)
    (fun _ _ => rfl) (fun n k acc => ?_) n 0 []
  · rw [tariffBandAccepted, Bool.and_eq_true, rises_iff, decide_eq_true_eq]
  · cases k <;> rfl

/-- R47: the examination of a TARIFF image as a chain. -/
theorem judgeTariff_eq (img : List Byte) : judgeTariff img =
    (require (inRange 1 16 (u8 img 0)) 0 >>= fun _ =>
      judgeTariffFrom img (u8 img 0) 0 none [] >>= fun bands => .ok ⟨ratesAt img 1, bands⟩) := by
  unfold judgeTariff
  rw [require_bind]
  cases judgeTariffFrom img (u8 img 0) 0 none [] <;> rfl

theorem judgeTariff_judged (img : List Byte) :
    let start (k : Nat) : Nat := u16 img (7 + 9 * k)
    let rates (pos : Nat) : PerAccount Nat := ⟨u16 img pos, u16 img (pos + 2), u16 img (pos + 4)⟩
    judgedInOrder
      ((0, 1 ≤ u8 img 0 ∧ u8 img 0 ≤ 16) :: (List.range (u8 img 0)).map fun k =>
        (k, start k ≤ 10079 ∧ (0 < k → start (k - 1) < start k)))
      (judgeTariff img)
      (.ok ⟨rates 1, (List.range (u8 img 0)).map fun k =>
        ⟨start k, byteAt img (9 + 9 * k), rates (10 + 9 * k)⟩⟩) := by
  intro start rates
  rw [judgeTariff_eq, ← List.append_nil (List.map _ _)]
  exact judged_require (inRange_iff _ _ _) fun _ =>
    judged_bind (judgeTariffFrom_judged img (u8 img 0)) fun _ => judged_nil rfl

/-! ## HEAT (R99) -/

/-- R99: lead entry `k` of a HEAT image is accepted. -/
def leadEntryAccepted (img : List Byte) (k : Nat) : Bool :=
  inRangeInt (-40) 70 (leadEntryAt img k).upper && rises (fun k => (leadEntryAt img k).upper) k
    && decide ((leadEntryAt img k).lead ≤ 240)

theorem judgeLeadsFrom_judged (img : List Byte) (n : Nat) :
    judgedInOrder ((List.range n).map fun k => (k + 1, -40 ≤ (leadEntryAt img k).upper ∧ (leadEntryAt img k).upper ≤ 70
        ∧ (0 < k → (leadEntryAt img (k - 1)).upper < (leadEntryAt img k).upper)
        ∧ (leadEntryAt img k).lead ≤ 240))
      (judgeLeadsFrom img n 0 none []) (.ok ((List.range n).map (leadEntryAt img))) := by
  rw [List.range_eq_range']
  refine judged_loop (entry := leadEntryAt img) (index := fun k => k + 1) (accepts := leadEntryAccepted img)
    (fun k => ?_) (loop := fun n k acc => judgeLeadsFrom img n k (priorOf (fun k => (leadEntryAt img k).upper) k) acc)
    (fun _ _ => rfl) (fun n k acc => ?_) n 0 []
  · rw [leadEntryAccepted, Bool.and_eq_true, Bool.and_eq_true, inRangeInt_iff, rises_iff, decide_eq_true_eq]
    simp only [and_assoc]
  · cases k <;> rfl

/-- R99: the ranges of a zone record. -/
theorem zoneRecordOk_iff (img : List Byte) (pos : Nat) :
    let r := zoneRecordAt img pos
    zoneRecordOk img pos = true ↔ 500 ≤ r.power ∧ r.power ≤ 3000 ∧ 0 ≤ r.target ∧ r.target ≤ 40 ∧ 1 ≤ r.hysteresis
      ∧ r.hysteresis ≤ 10 ∧ 30 ≤ r.ceiling ∧ r.ceiling ≤ 60 ∧ r.target < r.ceiling ∧ u8 img (pos + 5) ≤ 1
      ∧ 5 ≤ r.rest ∧ r.rest ≤ 600 ∧ r.maxExtensions ≤ 7 := by
  simp only [zoneRecordOk, Bool.and_eq_true, inRange_iff, inRangeInt_iff, decide_eq_true_eq, and_assoc]

/-- R99: the examination of a HEAT image as a chain. -/
theorem judgeHeat_eq (img : List Byte) : judgeHeat img =
    (require (decide (u8 img 0 ≤ 2) && inRange 5 120 (u16 img 1) && inRange 30 600 (u16 img 3)
        && decide (u16 img 1 < u16 img 3) && decide (u16 img 5 ≤ 20000) && inRange 1 6 (u8 img 7)) 0 >>= fun _ =>
      judgeLeadsFrom img (u8 img 7) 0 none [] >>= fun leads =>
        require (zoneRecordOk img (8 + 4 * u8 img 7)) 7 >>= fun _ =>
        require (zoneRecordOk img (8 + 4 * u8 img 7 + 16)) 8 >>= fun _ =>
        require (zoneRecordOk img (8 + 4 * u8 img 7 + 32)) 9 >>= fun _ =>
        require (zoneRecordOk img (8 + 4 * u8 img 7 + 48)) 10 >>= fun _ =>
          .ok ⟨if u8 img 0 = 0 then .all else if u8 img 0 = 1 then .pair else .single, u16 img 1, u16 img 3, u16 img 5,
            leads, ⟨zoneRecordAt img (8 + 4 * u8 img 7), zoneRecordAt img (8 + 4 * u8 img 7 + 16),
              zoneRecordAt img (8 + 4 * u8 img 7 + 32), zoneRecordAt img (8 + 4 * u8 img 7 + 48)⟩⟩) := by
  unfold judgeHeat
  rw [require_bind]
  generalize u8 img 0 = mode
  match mode with
  | 0 => rfl
  | 1 => rfl
  | mode + 2 => rfl

theorem judgeHeat_judged (img : List Byte) :
    let n := u8 img 7
    let upper (k : Nat) : Int := i16 img (8 + 4 * k)
    let lead (k : Nat) : Nat := u16 img (10 + 4 * k)
    let record (z : Nat) : ZoneRecord :=
      let pos := 8 + 4 * n + 16 * z
      ⟨u16 img pos, i8 img (pos + 2), i8 img (pos + 3), i8 img (pos + 4),
        if u8 img (pos + 5) = 0 then .short else .long, u16 img (pos + 6), u8 img (pos + 8)⟩
    let header : Prop := u8 img 0 ≤ 2 ∧ 5 ≤ u16 img 1 ∧ u16 img 1 ≤ 120 ∧ 30 ≤ u16 img 3 ∧ u16 img 3 ≤ 600
      ∧ u16 img 1 < u16 img 3 ∧ u16 img 5 ≤ 20000 ∧ 1 ≤ n ∧ n ≤ 6
    let leadOk (k : Nat) : Prop := -40 ≤ upper k ∧ upper k ≤ 70 ∧ (0 < k → upper (k - 1) < upper k)
      ∧ lead k ≤ 240
    let zoneOk (z : Nat) : Prop :=
      let r := record z
      500 ≤ r.power ∧ r.power ≤ 3000 ∧ 0 ≤ r.target ∧ r.target ≤ 40 ∧ 1 ≤ r.hysteresis ∧ r.hysteresis ≤ 10
        ∧ 30 ≤ r.ceiling ∧ r.ceiling ≤ 60 ∧ r.target < r.ceiling ∧ u8 img (8 + 4 * n + 16 * z + 5) ≤ 1
        ∧ 5 ≤ r.rest ∧ r.rest ≤ 600 ∧ r.maxExtensions ≤ 7
    judgedInOrder
      ((0, header) :: (((List.range n).map fun k => (k + 1, leadOk k))
        ++ (List.range 4).map fun z => (z + 7, zoneOk z)))
      (judgeHeat img)
      (.ok ⟨if u8 img 0 = 0 then .all else if u8 img 0 = 1 then .pair else .single, u16 img 1, u16 img 3,
        u16 img 5, (List.range n).map fun k => ⟨upper k, lead k⟩,
        ⟨record 0, record 1, record 2, record 3⟩⟩) := by
  intro n upper lead record header leadOk zoneOk
  rw [judgeHeat_eq]
  refine judged_require (by simp only [Bool.and_eq_true, inRange_iff, decide_eq_true_eq, header, and_assoc]; rfl)
    fun _ => ?_
  refine judged_bind (judgeLeadsFrom_judged img n) fun _ => ?_
  exact judged_require (zoneRecordOk_iff img _) fun _ => judged_require (zoneRecordOk_iff img _) fun _ =>
    judged_require (zoneRecordOk_iff img _) fun _ => judged_require (zoneRecordOk_iff img _) fun _ => judged_nil rfl

/-! ## INSULATION (R127) -/

/-- R127: the branch that a code of the shed list names, if it may be shed. -/
def shedAt (img : List Byte) (j : Nat) : Option Branch := Branch.ofSheddableCode (u8 img (34 + j))

/-- R127: a code of the shed list names a branch that may be shed and that none before it names. -/
def shedFresh (img : List Byte) (j : Nat) : Prop :=
  (shedAt img j).isSome = true ∧ ∀ i, i < j → shedAt img i ≠ shedAt img j

theorem shedAt_before (img : List Byte) {j : Nat} {b : Branch} (named : shedAt img j = some b) :
    ((List.range j).filterMap (shedAt img)).contains b = true ↔ ¬ ∀ i, i < j → shedAt img i ≠ shedAt img j := by
  simp only [List.contains_iff_mem, List.mem_filterMap, List.mem_range, named]
  constructor
  · rintro ⟨i, before, same⟩ apart
    exact apart i before same
  · intro clash
    refine Classical.byContradiction fun none_ => ?_
    exact clash fun i before same => none_ ⟨i, before, same⟩

theorem shedAt_joins (img : List Byte) {k : Nat} {b : Branch} (named : shedAt img k = some b) :
    (List.range k).filterMap (shedAt img) ++ [b] = (List.range (k + 1)).filterMap (shedAt img) := by
  rw [List.range_succ, List.filterMap_append]
  simp [named]

/-- R127: a shed list whose codes name sheddable branches, each once, is read. -/
theorem shedListFrom_of_fresh (img : List Byte) (n k : Nat) (fresh : ∀ j, k ≤ j → j < k + n → shedFresh img j) :
    shedListFrom img n (34 + k) ((List.range k).filterMap (shedAt img))
      = some ((List.range (k + n)).filterMap (shedAt img)) := by
  induction n generalizing k with
  | zero => rfl
  | succ n ih =>
    obtain ⟨isBranch, apart⟩ := fresh k (Nat.le_refl k) (by omega)
    obtain ⟨b, named⟩ := Option.isSome_iff_exists.mp isBranch
    have code : Branch.ofSheddableCode (u8 img (34 + k)) = some b := named
    have new : ¬ ((List.range k).filterMap (shedAt img)).contains b = true :=
      mt (shedAt_before img named).mp (Classical.not_not.mpr apart)
    rw [shedListFrom, code]
    dsimp only
    rw [if_neg new, shedAt_joins img named, Nat.add_assoc,
      ih (k + 1) fun j after within => fresh j (by omega) (by omega), show k + 1 + n = k + (n + 1) by omega]

/-- R127: a shed list with another code, or with a branch twice, is not. -/
theorem shedListFrom_of_clash (img : List Byte) (n k : Nat) (clash : ¬ ∀ j, k ≤ j → j < k + n → shedFresh img j) :
    shedListFrom img n (34 + k) ((List.range k).filterMap (shedAt img)) = none := by
  induction n generalizing k with
  | zero => exact absurd (fun j after before => absurd before (by omega)) clash
  | succ n ih =>
    rw [shedListFrom]
    cases named : Branch.ofSheddableCode (u8 img (34 + k)) with
    | none => rfl
    | some b =>
      dsimp only
      have known : shedAt img k = some b := named
      by_cases before : ((List.range k).filterMap (shedAt img)).contains b = true
      · rw [if_pos before]
      · rw [if_neg before, shedAt_joins img known, Nat.add_assoc]
        refine ih (k + 1) fun later => clash fun j after within => ?_
        rcases Nat.eq_or_lt_of_le after with rfl | beyond
        · exact ⟨by rw [known]; rfl, Classical.not_not.mp (mt (shedAt_before img known).mpr before)⟩
        · exact later j beyond (by omega)

theorem contextRecordOk_iff (r : ContextRecord) : contextRecordOk r = true ↔
    50 ≤ r.warn ∧ r.warn ≤ 10000 ∧ 20 ≤ r.trip ∧ r.trip < r.warn ∧ 1 ≤ r.confirm ∧ r.confirm ≤ 15 ∧ r.settle ≤ 15 := by
  simp only [contextRecordOk, Bool.and_eq_true, inRange_iff, decide_eq_true_eq, and_assoc]

theorem judgeInsulation_judged (img : List Byte) :
    let n := u8 img 33
    let record (k : Nat) : ContextRecord :=
      ⟨u16 img (9 + 6 * k), u16 img (11 + 6 * k), u8 img (13 + 6 * k), u8 img (14 + 6 * k)⟩
    let general : Prop := 2 ≤ u8 img 0 ∧ u8 img 0 ≤ 120 ∧ 1 ≤ u8 img 2 ∧ u8 img 2 ≤ 10 ∧ 1 ≤ u8 img 3
      ∧ u8 img 3 ≤ 5 ∧ 100 ≤ u16 img 4 ∧ u16 img 4 ≤ 10000 ∧ 10 ≤ u16 img 6 ∧ u16 img 6 ≤ 200
      ∧ 2 ≤ u8 img 8 ∧ u8 img 8 ≤ 8
    let recordOk (k : Nat) : Prop :=
      let r := record k
      50 ≤ r.warn ∧ r.warn ≤ 10000 ∧ 20 ≤ r.trip ∧ r.trip < r.warn ∧ 1 ≤ r.confirm ∧ r.confirm ≤ 15
        ∧ r.settle ≤ 15
    let shed (j : Nat) : Option Branch := Branch.ofSheddableCode (u8 img (34 + j))
    let shedOk : Prop := 1 ≤ n ∧ n ≤ 7 ∧ ∀ j, j < n → (shed j).isSome = true ∧ ∀ i, i < j → shed i ≠ shed j
    judgedInOrder [(0, general), (1, recordOk 0), (2, recordOk 1), (3, recordOk 2), (4, recordOk 3), (5, shedOk)]
      (judgeInsulation img)
      (.ok ⟨u8 img 0, flagAt img 1, u8 img 2, u8 img 3, u16 img 4, u16 img 6, u8 img 8,
        record 0, record 1, record 2, record 3, (List.range n).filterMap shed⟩) := by
  intro n record general recordOk shed shedOk
  unfold judgeInsulation
  refine judged_require (by simp only [Bool.and_eq_true, inRange_iff, general, and_assoc]) fun _ => ?_
  refine judged_require (contextRecordOk_iff _) fun _ => judged_require (contextRecordOk_iff _) fun _ =>
    judged_require (contextRecordOk_iff _) fun _ => judged_require (contextRecordOk_iff _) fun _ => ?_
  rw [require_bind]
  refine judged_cons (fun broken => ?_) fun ⟨atLeast, atMost, fresh⟩ => judged_nil ?_
  · split
    · next within =>
      obtain ⟨atLeast, atMost⟩ := (inRange_iff _ _ _).mp within
      have clash : ¬ ∀ j, 0 ≤ j → j < 0 + u8 img 33 → shedFresh img j := fun fresh =>
        broken ⟨atLeast, atMost, fun j before => fresh j (Nat.zero_le j) (by omega)⟩
      have none_ : shedListFrom img (u8 img 33) 34 [] = none := shedListFrom_of_clash img (u8 img 33) 0 clash
      rw [none_]
    · rfl
  · have some_ : shedListFrom img (u8 img 33) 34 [] = some ((List.range n).filterMap shed) := by
      have read := shedListFrom_of_fresh img (u8 img 33) 0 fun j _ before => fresh j (by omega)
      rw [Nat.zero_add] at read
      exact read
    rw [if_pos ((inRange_iff _ _ _).mpr ⟨atLeast, atMost⟩), some_]
    rfl

/-! ## NODE (R9) -/

/-- R9: entry `k` of a NODE image meets its own conditions, with the entries before it. -/
def nodeEntryGood (own : Byte) (img : List Byte) (k : Nat) : Prop :=
  ∃ r, Role.ofCode (u8 img (9 * k)) = some r
    ∧ (∀ j, j < k → Role.ofCode (u8 img (9 * j)) ≠ some r)
    ∧ 1 ≤ (byteAt img (9 * k + 1)).toNat ∧ (byteAt img (9 * k + 1)).toNat ≤ 55
    ∧ (∀ j, j < k → byteAt img (9 * j + 1) ≠ byteAt img (9 * k + 1))
    ∧ byteAt img (9 * k + 1) ≠ own ∧ 10 ≤ u16 img (9 * k + 2) ∧ u16 img (9 * k + 2) ≤ 2000
    ∧ 2 ≤ u8 img (9 * k + 4) ∧ u8 img (9 * k + 4) ≤ 15
    ∧ (r = .inlet ∨ r = .heater ∨ r = .cargo → 1 ≤ u32 img (9 * k + 5))

theorem u8_lt (b : List Byte) (k : Nat) : u8 b k < 256 := (byteAt b k).isLt

theorem u32_le (b : List Byte) (k : Nat) : u32 b k ≤ 4294967295 := by
  have high := u16_lt b k
  have low := u16_lt b (k + 2)
  unfold u32
  omega

theorem Role.metering_iff (r : Role) : r.metering = true ↔ r = .inlet ∨ r = .heater ∨ r = .cargo := by
  cases r <;> decide

/-- What NODE entry `k` says, given the role it names. -/
def nodeEntryOf (img : List Byte) (k : Nat) (r : Role) : NodeEntry :=
  ⟨r, byteAt img (9 * k + 1), u16 img (9 * k + 2), u8 img (9 * k + 4), u32 img (9 * k + 5)⟩

theorem nodeEntryAt_eq (img : List Byte) (k : Nat) :
    nodeEntryAt img k = (Role.ofCode (u8 img (9 * k))).map (nodeEntryOf img k) := rfl

/-- A test of the entries before entry `k`, by the roles that they name. -/
theorem nodeEntries_all (img : List Byte) (k : Nat) (test : NodeEntry → Bool) :
    ((List.range k).filterMap (nodeEntryAt img)).all test = true
      ↔ ∀ j, j < k → ∀ r, Role.ofCode (u8 img (9 * j)) = some r → test (nodeEntryOf img j r) = true := by
  simp only [List.all_eq_true, List.mem_filterMap, List.mem_range, nodeEntryAt_eq, Option.map_eq_some_iff]
  constructor
  · exact fun all j before r named => all _ ⟨j, before, r, named, rfl⟩
  · rintro all e ⟨j, before, r, named, rfl⟩
    exact all j before r named

/-- R9: the test of an entry against those before it, each of which names a role. -/
theorem nodeEntryOk_iff (own : Byte) (img : List Byte) {k : Nat} {r : Role}
    (named : Role.ofCode (u8 img (9 * k)) = some r) (before : ∀ j, j < k → nodeEntryGood own img j) :
    nodeEntryOk own ((List.range k).filterMap (nodeEntryAt img)) (nodeEntryOf img k r) = true
      ↔ nodeEntryGood own img k := by
  have roles : (∀ j, j < k → ∀ r', Role.ofCode (u8 img (9 * j)) = some r' → (r' != r) = true)
      ↔ ∀ j, j < k → Role.ofCode (u8 img (9 * j)) ≠ some r := by
    refine forall₂_congr fun j _ => ⟨fun apart same => ?_, fun apart r' code => ?_⟩
    · exact absurd (apart r same) (by simp)
    · exact bne_iff_ne.mpr fun same => apart (code.trans (congrArg some same))
  have addresses : (∀ j, j < k → ∀ r', Role.ofCode (u8 img (9 * j)) = some r' →
        (byteAt img (9 * j + 1) != byteAt img (9 * k + 1)) = true)
      ↔ ∀ j, j < k → byteAt img (9 * j + 1) ≠ byteAt img (9 * k + 1) := by
    refine forall₂_congr fun j within => ⟨fun apart => ?_, fun apart _ _ => bne_iff_ne.mpr apart⟩
    obtain ⟨r', code, -⟩ := before j within
    exact bne_iff_ne.mp (apart r' code)
  have plausible : (!r.metering || inRange 1 4294967295 (u32 img (9 * k + 5))) = true
      ↔ (r = .inlet ∨ r = .heater ∨ r = .cargo → 1 ≤ u32 img (9 * k + 5)) := by
    rw [← Role.metering_iff]
    cases r.metering <;> simp [inRange_iff, u32_le]
  have tests : nodeEntryOk own ((List.range k).filterMap (nodeEntryAt img)) (nodeEntryOf img k r) = true ↔
      (∀ j, j < k → Role.ofCode (u8 img (9 * j)) ≠ some r)
      ∧ 1 ≤ (byteAt img (9 * k + 1)).toNat ∧ (byteAt img (9 * k + 1)).toNat ≤ 55
      ∧ (∀ j, j < k → byteAt img (9 * j + 1) ≠ byteAt img (9 * k + 1))
      ∧ byteAt img (9 * k + 1) ≠ own ∧ 10 ≤ u16 img (9 * k + 2) ∧ u16 img (9 * k + 2) ≤ 2000
      ∧ 2 ≤ u8 img (9 * k + 4) ∧ u8 img (9 * k + 4) ≤ 15
      ∧ (r = .inlet ∨ r = .heater ∨ r = .cargo → 1 ≤ u32 img (9 * k + 5)) := by
    simp only [nodeEntryOk, Bool.and_eq_true, nodeEntries_all, inRange_iff, bne_iff_ne, and_assoc, nodeEntryOf,
      ← roles, ← addresses, ← plausible]
  rw [tests]
  refine ⟨fun good => ⟨r, named, good⟩, fun ⟨r', code, good⟩ => ?_⟩
  rw [Option.some.inj (named.symm.trans code)]
  exact good

theorem judgeNodeFrom_judged (own : Byte) (img : List Byte) (n k : Nat)
    (before : ∀ j, j < k → nodeEntryGood own img j) :
    judgedInOrder ((List.range' k n).map fun j => (j, nodeEntryGood own img j))
      (judgeNodeFrom own img n k ((List.range k).filterMap (nodeEntryAt img)))
      (.ok ((List.range (k + n)).filterMap (nodeEntryAt img))) := by
  induction n generalizing k with
  | zero => exact judged_nil rfl
  | succ n ih =>
    rw [List.range'_succ, List.map_cons, judgeNodeFrom, nodeEntryAt_eq]
    cases named : Role.ofCode (u8 img (9 * k)) with
    | none =>
      refine judged_cons (fun _ => rfl) fun ⟨r, code, _⟩ => ?_
      rw [named] at code
      cases code
    | some r =>
      have same := nodeEntryOk_iff own img named before
      have joins : (List.range k).filterMap (nodeEntryAt img) ++ [nodeEntryOf img k r]
          = (List.range (k + 1)).filterMap (nodeEntryAt img) := by
        rw [List.range_succ, List.filterMap_append]
        simp [nodeEntryAt_eq, named]
      refine judged_cons (fun broken => if_neg (mt same.mp broken)) fun good => ?_
      have later := ih (k + 1) fun j within =>
        (Nat.lt_succ_iff_lt_or_eq.mp within).elim (before j) fun here => here ▸ good
      dsimp only [Option.map_some]
      rw [if_pos (same.mpr good), joins, show k + (n + 1) = k + 1 + n by omega]
      exact later

theorem judgeNode_judged (own : Byte) (img : List Byte) :
    judgedInOrder ((List.range 8).map fun k => (k, nodeEntryGood own img k)) (judgeNode own img)
      (.ok ((List.range 8).filterMap fun k => (Role.ofCode (u8 img (9 * k))).map fun r =>
        ⟨r, byteAt img (9 * k + 1), u16 img (9 * k + 2), u8 img (9 * k + 4), u32 img (9 * k + 5)⟩)) := by
  rw [List.range_eq_range']
  exact judgeNodeFrom_judged own img 8 0 nofun

end Sys2Proof.Machine
end

section
/-! PROOFS. The commits and the completion of a LOAD_COMMIT (O36). -/

namespace Sys2Proof.Machine

/-! ## What each table's commit does (R9, R49, R58, R71, R84, R85, R99, R127) -/

section
variable (p : Part) (img : List Byte)

/-- R184: an image that offends is not committed. -/
theorem Part.judgeImage_error (k : Nat) :
    (judgeNode p.chain.address img = .error k → p.judgeImage .node img = .error k)
      ∧ (judgeLimit img = .error k → p.judgeImage .limit img = .error k)
      ∧ (judgeBudget img = .error k → p.judgeImage .budget img = .error k)
      ∧ (judgeTariff img = .error k → p.judgeImage .tariff img = .error k)
      ∧ (judgeHeat img = .error k → p.judgeImage .heat img = .error k)
      ∧ (judgeInsulation img = .error k → p.judgeImage .insulation img = .error k) := by
  have offends {α : Type} {j : Judged α} (f : α → Part) (h : j = .error k) : j.map f = .error k := by
    rw [h]
    rfl
  exact ⟨offends _, offends _, offends _, offends _, offends _, offends _⟩

variable {p img}

/-- R184: a valid image is committed. -/
theorem Judged.map_ok {α : Type} {j : Judged α} {x : α} (valid : j = .ok x) (f : α → Part) : j.map f = .ok (f x) := by
  rw [valid]
  rfl

theorem Part.judgeImage_node {es : List NodeEntry} (valid : judgeNode p.chain.address img = .ok es) :
    p.judgeImage .node img = .ok { p with
      nodes := { NodeTable.initial with table := some ⟨img, es⟩ }
      meter := { p.meter with inletBase := none, heaterBase := none, cargoBase := none }
      drive := { p.drive with branches := p.drive.branches.map fun e => { e with feedback := none, change := none } }
      heat := { p.heat with zones := p.heat.zones.map fun z => { z with feedback := none, change := none } }
      monitor := { p.monitor with change := none }
      clamp := ⟨none, none⟩
      budget := { p.budget with window := [] }
      session := { p.session with bandPower := 0 } } :=
  Judged.map_ok valid fun x => p.commitNode ⟨img, x⟩

/-- R84, R85: a grace that the table's seconds reach ends the session. -/
theorem Part.graceEnds_eq (q : Part) (start : Option Nat) (seconds : Nat) (cause : Cause) :
    (if q.graceOver start seconds then q.terminate cause else q) = match start with
      | none => q
      | some since => if 1000 * seconds ≤ q.now - since then q.terminate cause else q := by
  cases start with
  | none => rfl
  | some since => simp only [Part.graceOver, decide_eq_true_eq]

theorem Part.judgeImage_limit {t : LimitTable} (valid : judgeLimit img = .ok t) :
    let q : Part := { p with session := { p.session with
      table := some ⟨img, t⟩
      chargeEnable := t.chargeEnable
      bandPower := match p.livePack with
        | none => 0
        | some r => t.bandPower r } }
    let moved := q.moveByBand.checkFull
    let r := match moved.session.inletGrace with
      | none => moved
      | some since => if 1000 * t.inletGrace ≤ moved.now - since then moved.terminate .inletStale else moved
    p.judgeImage .limit img = .ok { r with budget := { r.budget with recomputeDue := true } } := by
  intro q moved r
  have tabled : (p.modSession fun s => { s with table := some ⟨img, t⟩, chargeEnable := t.chargeEnable }).bandPowerNow =
      match p.livePack with
      | none => 0
      | some r => t.bandPower r := by
    show (match (some ⟨img, t⟩ : Option (Loaded LimitTable)), p.livePack with | some t, some r => _ | _, _ => _) = _
    cases p.livePack <;> rfl
  have commits : p.commitLimit ⟨img, t⟩ = r.recomputeDue := by
    unfold Part.commitLimit
    dsimp only
    rw [tabled, Part.graceEnds_eq]
    rfl
  exact (Judged.map_ok valid fun x => p.commitLimit ⟨img, x⟩).trans (congrArg Except.ok commits)

theorem Part.judgeImage_heat {t : HeatTable} (valid : judgeHeat img = .ok t) :
    let q : Part := { p with heat := { p.heat with table := some ⟨img, t⟩ } }
    let beyond := match t.mode with
      | .all => []
      | .pair => (p.heat.burstOrder.drop 2).reverse
      | .single => (p.heat.burstOrder.drop 1).reverse
    let cut := (beyond.foldl (fun (a : Part) z => a.endBurst .cut z) q).evalWindows
    p.judgeImage .heat img = .ok { cut with heat := { cut.heat with demandDue := true } } := by
  intro q beyond cut
  have commits : p.commitHeat ⟨img, t⟩ = cut.demandDue := by
    unfold Part.commitHeat
    dsimp only
    rw [Part.endBurstsOf_eq_foldl]
    rfl
  exact (Judged.map_ok valid fun x => p.commitHeat ⟨img, x⟩).trans (congrArg Except.ok commits)

/-- R128: a settle request counts in the three states that judge. -/
theorem Part.settleRequest_eq (q : Part) : q.settleRequest =
    if q.monitor.state = .settling ∨ q.monitor.state = .normal ∨ q.monitor.state = .warning then q.enterSettling
    else q := by
  unfold Part.settleRequest
  cases q.monitor.state <;> simp

theorem Part.judgeImage_insulation {t : InsulationTable} (valid : judgeInsulation img = .ok t) :
    let q : Part := { p with monitor := { p.monitor with
      table := some ⟨img, t⟩
      checkCount := if p.monitor.state = .checking then 0 else p.monitor.checkCount } }
    let r := match p.session.unknownGrace with
      | none => q
      | some since => if 1000 * t.grace ≤ p.now - since then q.terminate .insulationUnknown else q
    p.judgeImage .insulation img = .ok
      (if p.monitor.state = .settling ∨ p.monitor.state = .normal ∨ p.monitor.state = .warning then
        r.enterSettling
      else r) := by
  intro q r
  have graced : (if q.graceOver q.session.unknownGrace t.grace then q.terminate .insulationUnknown else q) = r :=
    q.graceEnds_eq p.session.unknownGrace t.grace .insulationUnknown
  have state : r.monitor.state = p.monitor.state := by
    rw [← graced]
    split
    · have same := congrArg Monitor.state (Part.monitor_of_beside (q.terminate_beside .insulationUnknown))
      exact same
    · rfl
  have commits : p.commitInsulation ⟨img, t⟩ = r.settleRequest := by
    rw [← graced]
    rfl
  rw [Part.settleRequest_eq, state] at commits
  exact (Judged.map_ok valid fun x => p.commitInsulation ⟨img, x⟩).trans (congrArg Except.ok commits)

end

/-! ## The completion (R184) -/

/-- R184: a table that has been applied, before the notices of the event's end. -/
def Part.tableApplied (a : Part) (g : Staging) : Part :=
  { a with
    mgmt := { a.mgmt with
      staging := none
      committed := if a.mgmt.committed.contains g.table then a.mgmt.committed else a.mgmt.committed ++ [g.table] }
    store := { a.store with borrow := false } }

theorem Part.settleCommit_eq (a : Part) (g : Staging) : a.settleCommit g =
    ((a.tableApplied g).raise (.tableCommitted g.table g.length (crc16 g.image))).finish := rfl

/-- R184: what the judging of a staging replies, the head in the queue. -/
theorem State.leaves_judged {s : State} {q : Part} {c : Frame} {rest : List Frame}
    (queued : q.mgmt.commands = c :: rest) (g : Staging) : s.leaves (respond c q (q.judgeStaging g)) =
      if g.table = .insulation ∧ q.locator.active = true then s.answers q c rest .wrongState []
      else if g.length ≠ impliedLength g.table g.buffer then s.answers q c rest .tableInvalid [255#8]
      else
        match q.judgeImage g.table g.image with
        | .error k => s.answers q c rest .tableInvalid (beBytes 1 k)
        | .ok a => s.answers (a.settleCommit g) c rest .ok (g.table.code :: beBytes 2 (crc16 g.image).toNat) := by
  have answered (after : Part) (same : after.mgmt.commands = q.mgmt.commands) (status : Status) (fields : List Byte) :
      s.leaves (respond c q (.answer after status fields)) = s.answers after c rest status fields := by
    rw [respond_answer (same.trans queued)]
    rfl
  unfold Part.judgeStaging
  split
  · exact answered q rfl .wrongState []
  · split
    · exact answered q rfl .tableInvalid [255#8]
    · cases judged : q.judgeImage g.table g.image with
      | error k => exact answered q rfl .tableInvalid _
      | ok a =>
        have kept := congrArg Queues.commands ((a.settleCommit_queues g).trans (q.judgeImage_queues a _ _ judged))
        exact answered _ kept .ok _

theorem exec_completion {s : State} {v : Validation} (validates : s.part.mgmt.validation = some v) :
    exec .loadCommitCompletion s = s.leaves s.part.validationDone :=
  State.after_when_due (due := fun p => p.mgmt.validation.isSome) Part.validationDone (by simp [validates])

/-- R184: with a place in the answer queue the completion judges the staging. -/
theorem Part.validationDone_of_place {p : Part} {v : Validation} {g : Staging} {c : Frame} {rest : List Frame}
    (validates : p.mgmt.validation = some v) (staged : p.mgmt.staging = some g) (queued : p.mgmt.commands = c :: rest)
    (place : p.mgmt.answers.length < 8) :
    p.validationDone = respond c (p.modMgmt fun m => { m with validation := none })
      ((p.modMgmt fun m => { m with validation := none }).judgeStaging g) := by
  have free : ¬ p.answersFull = true := by simpa [Part.answersFull] using place
  unfold Part.validationDone
  rw [validates]
  dsimp only
  rw [if_neg free, Part.completeCommit, queued, staged]

/-- R184: with the answer queue full the completion waits. -/
theorem Part.validationDone_of_full {p : Part} {v : Validation} (validates : p.mgmt.validation = some v)
    (full : 8 ≤ p.mgmt.answers.length) :
    p.validationDone = { p with mgmt := { p.mgmt with validation := some { v with done := true } } } := by
  have filled : p.answersFull = true := decide_eq_true full
  unfold Part.validationDone
  rw [validates]
  exact if_pos filled

/-- Settles O36: the completion, the six validations part by part, and the six commits. -/
theorem commitCompletionJudgesImage : Obligations.CommitCompletionJudgesImage := by
  refine ⟨fun v g c rest s => ?completion, judgeNode_judged, judgeLimit_judged, judgeBudget_judged, judgeTariff_judged,
    judgeHeat_judged, judgeInsulation_judged, fun p img => ?commits⟩
  case completion =>
    intro p validates staged queued img q
    refine ⟨fun full => ?_, fun place => ?_⟩
    · rw [exec_completion validates, Part.validationDone_of_full validates full]
    · rw [exec_completion validates, Part.validationDone_of_place validates staged queued place]
      exact State.leaves_judged (q := q) queued g
  case commits =>
    exact ⟨p.judgeImage_error img, fun es => Part.judgeImage_node, fun t => Part.judgeImage_limit,
      fun t valid => Judged.map_ok valid fun x => p.commitBudget ⟨img, x⟩,
      fun t valid => Judged.map_ok valid fun x => p.commitTariff ⟨img, x⟩,
      fun t => Part.judgeImage_heat, rfl, rfl, rfl, rfl, rfl, rfl, fun t => Part.judgeImage_insulation⟩

end Sys2Proof.Machine
end

section
/-! PROOFS. The step with a command waiting (O1), and what every row leaves alone (O3). -/

namespace Sys2Proof.Machine

/-! ## A command that waits -/

theorem step_of_front {s : State} {i : Instr} {rest : List Instr} (front : s.pending = i :: rest) :
    step s = exec i { s with pending := rest } := by
  unfold step
  rw [front]

/-- Settles O1: the command put at the front is the one that runs, and the rest is the queue as it was. -/
theorem stepTakesFront : Obligations.StepTakesFront :=
  fun c s => step_of_front (s := { s with pending := c :: s.pending }) rfl

/-! ## Rows act on the part alone -/

/-- A row's meaning that works on the part, whatever waits, and never stops the machine. -/
def ActsOnPart (run : State → Host.Outcome State Fault Refusal) : Prop :=
  ∃ f : Part → Part, ∀ s, run s = s.after f

theorem State.after_actsOnPart (f : Part → Part) : ActsOnPart fun s => s.after f := ⟨f, fun _ => rfl⟩

/-- An expiry, the minute tick or a completion, due or not (log 2). -/
theorem State.when_actsOnPart (due : Part → Bool) (f : Part → Part) :
    ActsOnPart fun s => s.after fun p => p.when (due p) f :=
  State.after_actsOnPart fun p => p.when (due p) f

/-- R177: the taking of the head command, whatever the gates and the command's own rule answer. -/
theorem State.take_actsOnPart (name : CommandName) (work : Part → Frame → Reply) :
    ActsOnPart fun s => s.take name work :=
  State.after_actsOnPart fun p => (p.takeAs name work).arbitrate

/-- Each event by what it does to the part; every other row is the taking of a command. -/
theorem exec_actsOnPart (i : Instr) : ActsOnPart (exec i) := by
  cases i
  case powerOn strap => exact State.after_actsOnPart fun _ => Part.initial strap none
  case resetInput strap => exact State.after_actsOnPart fun p => Part.initial strap p.chain.portB
  case frameArrival bytes => exact State.after_actsOnPart fun p => (p.receive bytes).arbitrate
  case transmissionEnd => exact State.after_actsOnPart Part.endTransmission
  case stalenessExpiry role => exact State.when_actsOnPart (Part.staleDue · role) (Part.goStale · role)
  case switchDeadlineExpiry b =>
    exact State.when_actsOnPart (fun p => p.deadlinePassed (p.branch b).change)
      fun p => (p.failChange .deadline b).finish
  case heatPendingExpiry z =>
    exact State.when_actsOnPart (fun p => p.deadlinePassed (p.zone z).change) fun p => p.failHeatChange z
  case modeDeadlineExpiry =>
    exact State.when_actsOnPart (fun p => p.deadlinePassed p.monitor.change) fun p => p.modeFailed.finish
  case inletStaleGraceExpiry =>
    exact State.when_actsOnPart Part.inletGraceDue fun p => (p.terminate .inletStale).finish
  case unknownGraceExpiry =>
    exact State.when_actsOnPart Part.unknownGraceDue fun p => (p.terminate .insulationUnknown).finish
  case durationTimerExpiry =>
    exact State.when_actsOnPart Part.durationDue fun p => (p.terminate .duration).finish
  case burstExpiry z =>
    exact State.when_actsOnPart (fun p => p.endReached z .burst) fun p => (p.burstExpires z).finish
  case restExpiry z =>
    exact State.when_actsOnPart (fun p => p.endReached z .rest) fun p => (p.restExpires z).finish
  case minuteTick => exact State.when_actsOnPart Part.minuteDue Part.minuteTick
  case wakeIntervalExpiry => exact State.when_actsOnPart Part.wakeDue fun p => (p.wake .interval).finish
  case loadCommitCompletion =>
    exact State.when_actsOnPart (fun p => p.mgmt.validation.isSome) Part.validationDone
  all_goals exact State.take_actsOnPart _ _

/-- Settles O3: a row answers the state with its part alone replaced. -/
theorem everyCommandAnswersNext : Obligations.EveryCommandAnswersNext := fun c s => by
  obtain ⟨f, ran⟩ := exec_actsOnPart c
  exact ⟨f s.part, ran s⟩

end Sys2Proof.Machine
end
